-- ==== Sys2Proof/Word.lean ====
section
/-! DEFINITION. The word types of the block: bytes and the fixed-width unsigned fields of the wire
formats (R8: a byte is 8 bits, every field value is unsigned). -/

namespace Sys2Proof

/-- A byte (R8). -/
abbrev Byte := BitVec 8

/-- A 16-bit unsigned field (R8). -/
abbrev U16 := BitVec 16

/-- A 32-bit unsigned field (R8). -/
abbrev U32 := BitVec 32

end Sys2Proof
end

