-- ==== Sys2Proof/Config.lean ====
section
/-! DEFINITION. The implementation parameters (R6), which are the block's only control registers
(R33). The machine holds them as the field `cfg` of its state; no row and no call writes them. -/

namespace Sys2Proof

/-- The version annotation of an IGMP record (R42: `1 | 2 | 3`). -/
inductive IgmpVersion where
  | v1
  | v2
  | v3
  deriving DecidableEq, Repr

/-- One row of `IGMP_VERSION_TABLE` (R144): a type code and the version it gives. -/
structure IgmpEntry where
  code : Byte
  version : IgmpVersion
  deriving DecidableEq, Repr

/-- The parameter `IGMP_VERSION_TABLE` (R6, R144): the five listed rows of table `IGMPTYPE`. DESIGN
CHOICE: the spec gives only the default of this parameter (U6); the model lets the code and the version of
each of the five rows vary, and fixes their number at five and their order (assumption log, entry 28). -/
structure IgmpTable where
  query : IgmpEntry
  v1Report : IgmpEntry
  v2Report : IgmpEntry
  leave : IgmpEntry
  v3Report : IgmpEntry
  deriving DecidableEq, Repr

/-- The parameter `IPV6_REMAINING_BASIS` (R6, R235). -/
inductive Ipv6Basis where
  | absolute
  | relative
  deriving DecidableEq, Repr

/-- The configuration registers (R6, R33). A bound that may be unbounded is an `Option`: `none` is
the spec's `unbounded`. -/
structure Config where
  vlanTpid : U16
  ethertypeMin : Nat
  etIpv4 : U16
  etArp : U16
  etIpv6 : U16
  dnsPort : U16
  dnsMaxPtrHops : Nat
  dnsRrCeiling : Nat
  ipv6RemainingBasis : Ipv6Basis
  maxLayerDepth : Option Nat
  trackIpv6 : Bool
  flowCapacity : Option Nat
  seqWidth : Nat
  igmpVersionTable : IgmpTable
  deriving DecidableEq, Repr

/-- The default `IGMP_VERSION_TABLE` (R144). -/
def IgmpTable.standard : IgmpTable :=
  { query := ⟨0x11#8, .v3⟩
    v1Report := ⟨0x12#8, .v1⟩
    v2Report := ⟨0x16#8, .v2⟩
    leave := ⟨0x17#8, .v2⟩
    v3Report := ⟨0x22#8, .v3⟩ }

/-- The default values of the parameters (R6). -/
def Config.standard : Config :=
  { vlanTpid := 0x8100#16
    ethertypeMin := 1536
    etIpv4 := 0x0800#16
    etArp := 0x0806#16
    etIpv6 := 0x86DD#16
    dnsPort := 53#16
    dnsMaxPtrHops := 5
    dnsRrCeiling := 100
    ipv6RemainingBasis := .absolute
    maxLayerDepth := none
    trackIpv6 := false
    flowCapacity := none
    seqWidth := 32
    igmpVersionTable := IgmpTable.standard }

/-- A bound of R6 is unbounded or at least 1. -/
def Config.boundOk : Option Nat → Bool
  | none => true
  | some n => decide (1 ≤ n)

/-- The legal values that R6 states: 1 to 5 pointer hops, and bounds of at least 1. -/
def Config.legal (c : Config) : Bool :=
  decide (1 ≤ c.dnsMaxPtrHops) && decide (c.dnsMaxPtrHops ≤ 5)
    && Config.boundOk c.maxLayerDepth && Config.boundOk c.flowCapacity

end Sys2Proof
end

