-- ==== Sys2Proof/Syntax.lean ====
section
/-! DEFINITION. The selectors (R133) and the instructions of the block: one constructor of `Instr`
for each row of the thirteen dispatch tables (R134 to R146). An operand is the part of the code that
the row's mask leaves open; a row with an exact code has none. -/

namespace Sys2Proof

/-- The thirteen dispatch tables (R133). -/
inductive Table where
  | link
  | ethertype
  | nullfam
  | llcsap
  | ipproto
  | tcpopt
  | sacklen
  | dnslabel
  | dnsrr
  | arpop
  | igmptype
  | udpport
  | tcpclass
  deriving DecidableEq, Repr

/-- The four rows of table `TCPCLASS`. They are independent predicates (R146), so the tracker names
the row it tests. -/
inductive ClassRow where
  | synNoAck
  | synAck
  | ack
  | fin
  deriving DecidableEq, Repr

/-- A selector (R133): a table and a code of the table's width. For `TCPCLASS` it also names the row
that is tested, since its rows are no dispatch (R133, R146). -/
inductive Selector where
  | link (code : BitVec 3)
  | ethertype (code : BitVec 16)
  | nullfam (code : BitVec 8)
  | llcsap (code : BitVec 16)
  | ipproto (code : BitVec 8)
  | tcpopt (code : BitVec 8)
  | sacklen (code : BitVec 8)
  | dnslabel (code : BitVec 8)
  | dnsrr (code : BitVec 32)
  | arpop (code : BitVec 16)
  | igmptype (code : BitVec 8)
  | udpport (code : BitVec 32)
  | tcpclass (row : ClassRow) (flags : BitVec 9)
  deriving DecidableEq, Repr

/-- The table of a selector (R133). -/
def Selector.table : Selector → Table
  | .link _ => .link
  | .ethertype _ => .ethertype
  | .nullfam _ => .nullfam
  | .llcsap _ => .llcsap
  | .ipproto _ => .ipproto
  | .tcpopt _ => .tcpopt
  | .sacklen _ => .sacklen
  | .dnslabel _ => .dnslabel
  | .dnsrr _ => .dnsrr
  | .arpop _ => .arpop
  | .igmptype _ => .igmptype
  | .udpport _ => .udpport
  | .tcpclass _ _ => .tcpclass

/-- The code of a selector as a number (R133). -/
def Selector.code : Selector → Nat
  | .link c => c.toNat
  | .ethertype c => c.toNat
  | .nullfam c => c.toNat
  | .llcsap c => c.toNat
  | .ipproto c => c.toNat
  | .tcpopt c => c.toNat
  | .sacklen c => c.toNat
  | .dnslabel c => c.toNat
  | .dnsrr c => c.toNat
  | .arpop c => c.toNat
  | .igmptype c => c.toNat
  | .udpport c => c.toNat
  | .tcpclass _ f => f.toNat

/-- The instructions: one constructor per row of spec/opcode_table.json, in the table's order. -/
inductive Instr where
  -- table LINK (R134)
  | ltEthernet
  | ltNull
  | ltRawIpv4
  | ltLinuxSll
  | ltLlc
  | ltOther (code : BitVec 3)
  -- table ETHERTYPE (R135)
  | etIpv4
  | etArp
  | etIpv6
  | etLenLo (code : BitVec 16)
  | etLenHi (code : BitVec 16)
  | etUnknown (code : BitVec 16)
  -- table NULLFAM (R136)
  | nfInet
  | nfInet6_24
  | nfInet6_28
  | nfInet6_30
  | nfOther (family : BitVec 8)
  -- table LLCSAP (R137)
  | llcSnap
  | llcBasic
  | llcBad (pair : BitVec 16)
  -- table IPPROTO (R138)
  | pExt0
  | pIcmp
  | pIgmp
  | pIpv4
  | pTcp
  | pUdp
  | pIpv6
  | pExt43
  | pExt51
  | pNoNext
  | pExt60
  | pExt135
  | pExt139
  | pExt140
  | pUnknown (protocol : BitVec 8)
  -- table TCPOPT (R139)
  | optEol
  | optNop
  | optMss
  | optWscale
  | optSackOk
  | optSack
  | optTs
  | optExp254
  | optExp255
  | optBad (kind : BitVec 8)
  -- table SACKLEN (R140)
  | sack1
  | sack2
  | sack3
  | sack4
  | sackBad (length : BitVec 8)
  -- table DNSLABEL (R141)
  | dnsTerm
  | dnsLabel (length : BitVec 6)
  | dnsPtr (high : BitVec 6)
  | dnsRsv01 (low : BitVec 6)
  | dnsRsv10 (low : BitVec 6)
  -- table DNSRR (R142)
  | rrAIn
  | rrNsIn
  | rrAaaaIn
  | rrOther (code : BitVec 32)
  -- table ARPOP (R143)
  | arpRequest
  | arpReply
  | arpUnknown (operation : BitVec 16)
  -- table IGMPTYPE (R144)
  | igmpQuery
  | igmpV1Report
  | igmpV2Report
  | igmpLeave
  | igmpV3Report
  | igmpOther (code : BitVec 8)
  -- table UDPPORT (R145)
  | udpDnsSrc (dstPort : BitVec 16)
  | udpDnsDst (srcPort : BitVec 16)
  | udpPlain (srcPort dstPort : BitVec 16)
  -- table TCPCLASS (R146)
  | segSynNoAck (flags : BitVec 9)
  | segSynAck (flags : BitVec 9)
  | segAck (flags : BitVec 9)
  | segFin (flags : BitVec 9)
  deriving DecidableEq, Repr

/-- The mnemonic of each row, as the tables spell it (R134 to R146). -/
def Instr.mnemonic : Instr → String
  | .ltEthernet => "LT_ETHERNET"
  | .ltNull => "LT_NULL"
  | .ltRawIpv4 => "LT_RAW_IPV4"
  | .ltLinuxSll => "LT_LINUX_SLL"
  | .ltLlc => "LT_LLC"
  | .ltOther _ => "LT_OTHER"
  | .etIpv4 => "ET_IPV4"
  | .etArp => "ET_ARP"
  | .etIpv6 => "ET_IPV6"
  | .etLenLo _ => "ET_LEN_LO"
  | .etLenHi _ => "ET_LEN_HI"
  | .etUnknown _ => "ET_UNKNOWN"
  | .nfInet => "NF_INET"
  | .nfInet6_24 => "NF_INET6_24"
  | .nfInet6_28 => "NF_INET6_28"
  | .nfInet6_30 => "NF_INET6_30"
  | .nfOther _ => "NF_OTHER"
  | .llcSnap => "LLC_SNAP"
  | .llcBasic => "LLC_BASIC"
  | .llcBad _ => "LLC_BAD"
  | .pExt0 => "P_EXT_0"
  | .pIcmp => "P_ICMP"
  | .pIgmp => "P_IGMP"
  | .pIpv4 => "P_IPV4"
  | .pTcp => "P_TCP"
  | .pUdp => "P_UDP"
  | .pIpv6 => "P_IPV6"
  | .pExt43 => "P_EXT_43"
  | .pExt51 => "P_EXT_51"
  | .pNoNext => "P_NONEXT"
  | .pExt60 => "P_EXT_60"
  | .pExt135 => "P_EXT_135"
  | .pExt139 => "P_EXT_139"
  | .pExt140 => "P_EXT_140"
  | .pUnknown _ => "P_UNKNOWN"
  | .optEol => "OPT_EOL"
  | .optNop => "OPT_NOP"
  | .optMss => "OPT_MSS"
  | .optWscale => "OPT_WSCALE"
  | .optSackOk => "OPT_SACKOK"
  | .optSack => "OPT_SACK"
  | .optTs => "OPT_TS"
  | .optExp254 => "OPT_EXP_254"
  | .optExp255 => "OPT_EXP_255"
  | .optBad _ => "OPT_BAD"
  | .sack1 => "SACK_1"
  | .sack2 => "SACK_2"
  | .sack3 => "SACK_3"
  | .sack4 => "SACK_4"
  | .sackBad _ => "SACK_BAD"
  | .dnsTerm => "DNS_TERM"
  | .dnsLabel _ => "DNS_LABEL"
  | .dnsPtr _ => "DNS_PTR"
  | .dnsRsv01 _ => "DNS_RSV_01"
  | .dnsRsv10 _ => "DNS_RSV_10"
  | .rrAIn => "RR_A_IN"
  | .rrNsIn => "RR_NS_IN"
  | .rrAaaaIn => "RR_AAAA_IN"
  | .rrOther _ => "RR_OTHER"
  | .arpRequest => "ARP_REQUEST"
  | .arpReply => "ARP_REPLY"
  | .arpUnknown _ => "ARP_UNKNOWN"
  | .igmpQuery => "IGMP_QUERY"
  | .igmpV1Report => "IGMP_V1_REPORT"
  | .igmpV2Report => "IGMP_V2_REPORT"
  | .igmpLeave => "IGMP_LEAVE"
  | .igmpV3Report => "IGMP_V3_REPORT"
  | .igmpOther _ => "IGMP_OTHER"
  | .udpDnsSrc _ => "UDP_DNS_SRC"
  | .udpDnsDst _ => "UDP_DNS_DST"
  | .udpPlain _ _ => "UDP_PLAIN"
  | .segSynNoAck _ => "SEG_SYN_NOACK"
  | .segSynAck _ => "SEG_SYN_ACK"
  | .segAck _ => "SEG_ACK"
  | .segFin _ => "SEG_FIN"

end Sys2Proof
end

