-- ==== Sys2Proof/WellFormed.lean ====
section
/-! DEFINITION. Which terms of `Instr` a code selects under a configuration: an operand lies in the
codes that the row's mask leaves open and that no earlier row of the table takes (R133: rows are
tried in order and the first match wins). -/

namespace Sys2Proof

/-- The ethertype is one of the three codes that have a decoder (R135). -/
def Config.namesEthertype (cfg : Config) (t : BitVec 16) : Bool :=
  t == cfg.etIpv4 || t == cfg.etArp || t == cfg.etIpv6

/-- The protocol numbers that have a row of their own (R138). -/
def namedProtocols : List (BitVec 8) :=
  [0#8, 1#8, 2#8, 4#8, 6#8, 17#8, 41#8, 43#8, 51#8, 59#8, 60#8, 135#8, 139#8, 140#8]

/-- The TCP option kinds that have a row of their own (R139). -/
def namedKinds : List (BitVec 8) :=
  [0#8, 1#8, 2#8, 3#8, 4#8, 5#8, 8#8, 254#8, 255#8]

/-- The type codes of the listed rows of `IGMPTYPE`, in order (R144). -/
def IgmpTable.codes (t : IgmpTable) : List (BitVec 8) :=
  [t.query.code, t.v1Report.code, t.v2Report.code, t.leave.code, t.v3Report.code]

/-- An instruction is well formed when some code of its table selects it (R133 to R146). -/
def Instr.wf (cfg : Config) : Instr → Bool
  | .ltOther c => decide (5 ≤ c.toNat)
  | .etArp => cfg.etArp != cfg.etIpv4
  | .etIpv6 => cfg.etIpv6 != cfg.etIpv4 && cfg.etIpv6 != cfg.etArp
  | .etLenLo c => !cfg.namesEthertype c && decide (c.toNat < cfg.ethertypeMin) && decide (c.toNat < 1024)
  | .etLenHi c => !cfg.namesEthertype c && decide (c.toNat < cfg.ethertypeMin) && decide (1024 ≤ c.toNat)
  | .etUnknown c => !cfg.namesEthertype c && decide (cfg.ethertypeMin ≤ c.toNat)
  | .nfOther f => !([2#8, 24#8, 28#8, 30#8].contains f)
  | .llcBad p => p != 0xAAAA#16 && p != 0x0000#16
  | .pUnknown p => !(namedProtocols.contains p)
  | .optBad k => !(namedKinds.contains k)
  | .sackBad l => !([10#8, 18#8, 26#8, 34#8].contains l)
  | .dnsLabel n => n != 0#6
  | .rrOther c => !([0x00010001#32, 0x00020001#32, 0x001C0001#32].contains c)
  | .arpUnknown o => o != 1#16 && o != 2#16
  | .igmpV1Report => !((cfg.igmpVersionTable.codes.take 1).contains cfg.igmpVersionTable.v1Report.code)
  | .igmpV2Report => !((cfg.igmpVersionTable.codes.take 2).contains cfg.igmpVersionTable.v2Report.code)
  | .igmpLeave => !((cfg.igmpVersionTable.codes.take 3).contains cfg.igmpVersionTable.leave.code)
  | .igmpV3Report => !((cfg.igmpVersionTable.codes.take 4).contains cfg.igmpVersionTable.v3Report.code)
  | .igmpOther t => !(cfg.igmpVersionTable.codes.contains t)
  | .udpDnsDst src => src != cfg.dnsPort
  | .udpPlain src dst => src != cfg.dnsPort && dst != cfg.dnsPort
  | .segSynNoAck f => f &&& 0x012#9 == 0x002#9
  | .segSynAck f => f &&& 0x012#9 == 0x012#9
  | .segAck f => f &&& 0x010#9 == 0x010#9
  | .segFin f => f &&& 0x001#9 == 0x001#9
  | .ltEthernet | .ltNull | .ltRawIpv4 | .ltLinuxSll | .ltLlc | .etIpv4 => true
  | .nfInet | .nfInet6_24 | .nfInet6_28 | .nfInet6_30 | .llcSnap | .llcBasic => true
  | .pExt0 | .pIcmp | .pIgmp | .pIpv4 | .pTcp | .pUdp | .pIpv6 | .pExt43 | .pExt51 => true
  | .pNoNext | .pExt60 | .pExt135 | .pExt139 | .pExt140 => true
  | .optEol | .optNop | .optMss | .optWscale | .optSackOk | .optSack | .optTs => true
  | .optExp254 | .optExp255 | .sack1 | .sack2 | .sack3 | .sack4 => true
  | .dnsTerm | .dnsPtr _ | .dnsRsv01 _ | .dnsRsv10 _ => true
  | .rrAIn | .rrNsIn | .rrAaaaIn | .arpRequest | .arpReply | .igmpQuery | .udpDnsSrc _ => true

end Sys2Proof
end

