-- ==== Sys2Proof/Decode.lean ====
section
/-! DEFINITION. The decoder from selectors to instructions, the encoder back, and the dispatch tables
written as match and mask rows (R133 to R146). The decoder is total: twelve tables give every code a
row, and `TCPCLASS` rejects by name a flag word that the tested row does not match. -/

namespace Sys2Proof

/-- Why a selector names no row: only `TCPCLASS` has no catch-all (R133, R146). -/
inductive DecodeError where
  /-- The row of `TCPCLASS` that was tested does not match the segment's flags. -/
  | classMiss (row : ClassRow) (flags : BitVec 9)
  deriving DecidableEq, Repr

/-- Table `LINK` (R134). -/
def decodeLinkCode (c : BitVec 3) : Instr :=
  if c = 0#3 then .ltEthernet
  else if c = 1#3 then .ltNull
  else if c = 2#3 then .ltRawIpv4
  else if c = 3#3 then .ltLinuxSll
  else if c = 4#3 then .ltLlc
  else .ltOther c

/-- Table `ETHERTYPE` (R135). The two length rows split the codes below `ETHERTYPE_MIN` at 1024, as
their masks do for the default 1536. -/
def decodeEthertype (cfg : Config) (t : BitVec 16) : Instr :=
  if t = cfg.etIpv4 then .etIpv4
  else if t = cfg.etArp then .etArp
  else if t = cfg.etIpv6 then .etIpv6
  else if t.toNat < cfg.ethertypeMin then
    if t.toNat < 1024 then .etLenLo t else .etLenHi t
  else .etUnknown t

/-- Table `NULLFAM` (R136). -/
def decodeNullFamily (f : BitVec 8) : Instr :=
  if f = 2#8 then .nfInet
  else if f = 24#8 then .nfInet6_24
  else if f = 28#8 then .nfInet6_28
  else if f = 30#8 then .nfInet6_30
  else .nfOther f

/-- Table `LLCSAP` (R137), keyed by `DSAP × 256 + SSAP`. -/
def decodeSap (p : BitVec 16) : Instr :=
  if p = 0xAAAA#16 then .llcSnap
  else if p = 0x0000#16 then .llcBasic
  else .llcBad p

/-- Table `IPPROTO` (R138). -/
def decodeProtocol (p : BitVec 8) : Instr :=
  if p = 0#8 then .pExt0
  else if p = 1#8 then .pIcmp
  else if p = 2#8 then .pIgmp
  else if p = 4#8 then .pIpv4
  else if p = 6#8 then .pTcp
  else if p = 17#8 then .pUdp
  else if p = 41#8 then .pIpv6
  else if p = 43#8 then .pExt43
  else if p = 51#8 then .pExt51
  else if p = 59#8 then .pNoNext
  else if p = 60#8 then .pExt60
  else if p = 135#8 then .pExt135
  else if p = 139#8 then .pExt139
  else if p = 140#8 then .pExt140
  else .pUnknown p

/-- Table `TCPOPT` (R139). -/
def decodeOptionKind (k : BitVec 8) : Instr :=
  if k = 0#8 then .optEol
  else if k = 1#8 then .optNop
  else if k = 2#8 then .optMss
  else if k = 3#8 then .optWscale
  else if k = 4#8 then .optSackOk
  else if k = 5#8 then .optSack
  else if k = 8#8 then .optTs
  else if k = 254#8 then .optExp254
  else if k = 255#8 then .optExp255
  else .optBad k

/-- Table `SACKLEN` (R140). -/
def decodeSackLength (l : BitVec 8) : Instr :=
  if l = 10#8 then .sack1
  else if l = 18#8 then .sack2
  else if l = 26#8 then .sack3
  else if l = 34#8 then .sack4
  else .sackBad l

/-- Table `DNSLABEL` (R141), by the two top bits of the byte (R126). -/
def decodeLabelByte (b : BitVec 8) : Instr :=
  if b = 0#8 then .dnsTerm
  else if b.extractLsb' 6 2 = 0#2 then .dnsLabel (b.extractLsb' 0 6)
  else if b.extractLsb' 6 2 = 3#2 then .dnsPtr (b.extractLsb' 0 6)
  else if b.extractLsb' 6 2 = 1#2 then .dnsRsv01 (b.extractLsb' 0 6)
  else .dnsRsv10 (b.extractLsb' 0 6)

/-- Table `DNSRR` (R142), keyed by `type × 65536 + class`. -/
def decodeRecordType (c : BitVec 32) : Instr :=
  if c = 0x00010001#32 then .rrAIn
  else if c = 0x00020001#32 then .rrNsIn
  else if c = 0x001C0001#32 then .rrAaaaIn
  else .rrOther c

/-- Table `ARPOP` (R143). -/
def decodeArpOperation (o : BitVec 16) : Instr :=
  if o = 1#16 then .arpRequest
  else if o = 2#16 then .arpReply
  else .arpUnknown o

/-- Table `IGMPTYPE` (R144), with the codes of the parameter `IGMP_VERSION_TABLE`. -/
def decodeIgmpType (cfg : Config) (t : BitVec 8) : Instr :=
  if t = cfg.igmpVersionTable.query.code then .igmpQuery
  else if t = cfg.igmpVersionTable.v1Report.code then .igmpV1Report
  else if t = cfg.igmpVersionTable.v2Report.code then .igmpV2Report
  else if t = cfg.igmpVersionTable.leave.code then .igmpLeave
  else if t = cfg.igmpVersionTable.v3Report.code then .igmpV3Report
  else .igmpOther t

/-- Table `UDPPORT` (R145), keyed by `srcPort × 65536 + dstPort`, with the parameter `DNS_PORT`
(R306). -/
def decodePorts (cfg : Config) (c : BitVec 32) : Instr :=
  if c.extractLsb' 16 16 = cfg.dnsPort then .udpDnsSrc (c.extractLsb' 0 16)
  else if c.extractLsb' 0 16 = cfg.dnsPort then .udpDnsDst (c.extractLsb' 16 16)
  else .udpPlain (c.extractLsb' 16 16) (c.extractLsb' 0 16)

/-- A segment's flag word lies in a row of `TCPCLASS`: the named bits alone are tested (R146). -/
def ClassRow.holds : ClassRow → BitVec 9 → Bool
  | .synNoAck, f => f &&& 0x012#9 == 0x002#9
  | .synAck, f => f &&& 0x012#9 == 0x012#9
  | .ack, f => f &&& 0x010#9 == 0x010#9
  | .fin, f => f &&& 0x001#9 == 0x001#9

/-- Table `TCPCLASS` (R146): one row tested on one flag word. -/
def decodeClass (row : ClassRow) (f : BitVec 9) : Except DecodeError Instr :=
  if row.holds f then
    match row with
    | .synNoAck => .ok (.segSynNoAck f)
    | .synAck => .ok (.segSynAck f)
    | .ack => .ok (.segAck f)
    | .fin => .ok (.segFin f)
  else .error (.classMiss row f)

/-- The decoder: the row that a selector selects (R133). -/
def decode (cfg : Config) : Selector → Except DecodeError Instr
  | .link c => .ok (decodeLinkCode c)
  | .ethertype t => .ok (decodeEthertype cfg t)
  | .nullfam f => .ok (decodeNullFamily f)
  | .llcsap p => .ok (decodeSap p)
  | .ipproto p => .ok (decodeProtocol p)
  | .tcpopt k => .ok (decodeOptionKind k)
  | .sacklen l => .ok (decodeSackLength l)
  | .dnslabel b => .ok (decodeLabelByte b)
  | .dnsrr c => .ok (decodeRecordType c)
  | .arpop o => .ok (decodeArpOperation o)
  | .igmptype t => .ok (decodeIgmpType cfg t)
  | .udpport c => .ok (decodePorts cfg c)
  | .tcpclass row f => decodeClass row f

/-- The encoder: the selector of an instruction, from the same tables (R134 to R146). -/
def encode (cfg : Config) : Instr → Selector
  | .ltEthernet => .link 0#3
  | .ltNull => .link 1#3
  | .ltRawIpv4 => .link 2#3
  | .ltLinuxSll => .link 3#3
  | .ltLlc => .link 4#3
  | .ltOther c => .link c
  | .etIpv4 => .ethertype cfg.etIpv4
  | .etArp => .ethertype cfg.etArp
  | .etIpv6 => .ethertype cfg.etIpv6
  | .etLenLo c => .ethertype c
  | .etLenHi c => .ethertype c
  | .etUnknown c => .ethertype c
  | .nfInet => .nullfam 2#8
  | .nfInet6_24 => .nullfam 24#8
  | .nfInet6_28 => .nullfam 28#8
  | .nfInet6_30 => .nullfam 30#8
  | .nfOther f => .nullfam f
  | .llcSnap => .llcsap 0xAAAA#16
  | .llcBasic => .llcsap 0x0000#16
  | .llcBad p => .llcsap p
  | .pExt0 => .ipproto 0#8
  | .pIcmp => .ipproto 1#8
  | .pIgmp => .ipproto 2#8
  | .pIpv4 => .ipproto 4#8
  | .pTcp => .ipproto 6#8
  | .pUdp => .ipproto 17#8
  | .pIpv6 => .ipproto 41#8
  | .pExt43 => .ipproto 43#8
  | .pExt51 => .ipproto 51#8
  | .pNoNext => .ipproto 59#8
  | .pExt60 => .ipproto 60#8
  | .pExt135 => .ipproto 135#8
  | .pExt139 => .ipproto 139#8
  | .pExt140 => .ipproto 140#8
  | .pUnknown p => .ipproto p
  | .optEol => .tcpopt 0#8
  | .optNop => .tcpopt 1#8
  | .optMss => .tcpopt 2#8
  | .optWscale => .tcpopt 3#8
  | .optSackOk => .tcpopt 4#8
  | .optSack => .tcpopt 5#8
  | .optTs => .tcpopt 8#8
  | .optExp254 => .tcpopt 254#8
  | .optExp255 => .tcpopt 255#8
  | .optBad k => .tcpopt k
  | .sack1 => .sacklen 10#8
  | .sack2 => .sacklen 18#8
  | .sack3 => .sacklen 26#8
  | .sack4 => .sacklen 34#8
  | .sackBad l => .sacklen l
  | .dnsTerm => .dnslabel 0#8
  | .dnsLabel n => .dnslabel (0#2 ++ n)
  | .dnsPtr n => .dnslabel (3#2 ++ n)
  | .dnsRsv01 n => .dnslabel (1#2 ++ n)
  | .dnsRsv10 n => .dnslabel (2#2 ++ n)
  | .rrAIn => .dnsrr 0x00010001#32
  | .rrNsIn => .dnsrr 0x00020001#32
  | .rrAaaaIn => .dnsrr 0x001C0001#32
  | .rrOther c => .dnsrr c
  | .arpRequest => .arpop 1#16
  | .arpReply => .arpop 2#16
  | .arpUnknown o => .arpop o
  | .igmpQuery => .igmptype cfg.igmpVersionTable.query.code
  | .igmpV1Report => .igmptype cfg.igmpVersionTable.v1Report.code
  | .igmpV2Report => .igmptype cfg.igmpVersionTable.v2Report.code
  | .igmpLeave => .igmptype cfg.igmpVersionTable.leave.code
  | .igmpV3Report => .igmptype cfg.igmpVersionTable.v3Report.code
  | .igmpOther t => .igmptype t
  | .udpDnsSrc dst => .udpport (cfg.dnsPort ++ dst)
  | .udpDnsDst src => .udpport (src ++ cfg.dnsPort)
  | .udpPlain src dst => .udpport (src ++ dst)
  | .segSynNoAck f => .tcpclass .synNoAck f
  | .segSynAck f => .tcpclass .synAck f
  | .segAck f => .tcpclass .ack f
  | .segFin f => .tcpclass .fin f

/-! ## The opcode table as data -/

/-- A row of a dispatch table (R133): it matches a code `c` when `c AND mask = pattern`. -/
structure Row where
  table : Table
  mnemonic : String
  mask : Nat
  pattern : Nat
  deriving DecidableEq, Repr

/-- The rows of table `LINK`. -/
def rowsLink : List Row :=
  [ ⟨.link, "LT_ETHERNET", 0x7, 0x0⟩
    , ⟨.link, "LT_NULL", 0x7, 0x1⟩
    , ⟨.link, "LT_RAW_IPV4", 0x7, 0x2⟩
    , ⟨.link, "LT_LINUX_SLL", 0x7, 0x3⟩
    , ⟨.link, "LT_LLC", 0x7, 0x4⟩
    , ⟨.link, "LT_OTHER", 0x0, 0x0⟩ ]

/-- The rows of table `ETHERTYPE`. -/
def rowsEthertype : List Row :=
  [ ⟨.ethertype, "ET_IPV4", 0xFFFF, 0x0800⟩
    , ⟨.ethertype, "ET_ARP", 0xFFFF, 0x0806⟩
    , ⟨.ethertype, "ET_IPV6", 0xFFFF, 0x86DD⟩
    , ⟨.ethertype, "ET_LEN_LO", 0xFC00, 0x0000⟩
    , ⟨.ethertype, "ET_LEN_HI", 0xFE00, 0x0400⟩
    , ⟨.ethertype, "ET_UNKNOWN", 0x0000, 0x0000⟩ ]

/-- The rows of table `NULLFAM`. -/
def rowsNullfam : List Row :=
  [ ⟨.nullfam, "NF_INET", 0xFF, 0x02⟩
    , ⟨.nullfam, "NF_INET6_24", 0xFF, 0x18⟩
    , ⟨.nullfam, "NF_INET6_28", 0xFF, 0x1C⟩
    , ⟨.nullfam, "NF_INET6_30", 0xFF, 0x1E⟩
    , ⟨.nullfam, "NF_OTHER", 0x00, 0x00⟩ ]

/-- The rows of table `LLCSAP`. -/
def rowsLlcsap : List Row :=
  [ ⟨.llcsap, "LLC_SNAP", 0xFFFF, 0xAAAA⟩
    , ⟨.llcsap, "LLC_BASIC", 0xFFFF, 0x0000⟩
    , ⟨.llcsap, "LLC_BAD", 0x0000, 0x0000⟩ ]

/-- The rows of table `IPPROTO`. -/
def rowsIpproto : List Row :=
  [ ⟨.ipproto, "P_EXT_0", 0xFF, 0x00⟩
    , ⟨.ipproto, "P_ICMP", 0xFF, 0x01⟩
    , ⟨.ipproto, "P_IGMP", 0xFF, 0x02⟩
    , ⟨.ipproto, "P_IPV4", 0xFF, 0x04⟩
    , ⟨.ipproto, "P_TCP", 0xFF, 0x06⟩
    , ⟨.ipproto, "P_UDP", 0xFF, 0x11⟩
    , ⟨.ipproto, "P_IPV6", 0xFF, 0x29⟩
    , ⟨.ipproto, "P_EXT_43", 0xFF, 0x2B⟩
    , ⟨.ipproto, "P_EXT_51", 0xFF, 0x33⟩
    , ⟨.ipproto, "P_NONEXT", 0xFF, 0x3B⟩
    , ⟨.ipproto, "P_EXT_60", 0xFF, 0x3C⟩
    , ⟨.ipproto, "P_EXT_135", 0xFF, 0x87⟩
    , ⟨.ipproto, "P_EXT_139", 0xFF, 0x8B⟩
    , ⟨.ipproto, "P_EXT_140", 0xFF, 0x8C⟩
    , ⟨.ipproto, "P_UNKNOWN", 0x00, 0x00⟩ ]

/-- The rows of table `TCPOPT`. -/
def rowsTcpopt : List Row :=
  [ ⟨.tcpopt, "OPT_EOL", 0xFF, 0x00⟩
    , ⟨.tcpopt, "OPT_NOP", 0xFF, 0x01⟩
    , ⟨.tcpopt, "OPT_MSS", 0xFF, 0x02⟩
    , ⟨.tcpopt, "OPT_WSCALE", 0xFF, 0x03⟩
    , ⟨.tcpopt, "OPT_SACKOK", 0xFF, 0x04⟩
    , ⟨.tcpopt, "OPT_SACK", 0xFF, 0x05⟩
    , ⟨.tcpopt, "OPT_TS", 0xFF, 0x08⟩
    , ⟨.tcpopt, "OPT_EXP_254", 0xFF, 0xFE⟩
    , ⟨.tcpopt, "OPT_EXP_255", 0xFF, 0xFF⟩
    , ⟨.tcpopt, "OPT_BAD", 0x00, 0x00⟩ ]

/-- The rows of table `SACKLEN`. -/
def rowsSacklen : List Row :=
  [ ⟨.sacklen, "SACK_1", 0xFF, 0x0A⟩
    , ⟨.sacklen, "SACK_2", 0xFF, 0x12⟩
    , ⟨.sacklen, "SACK_3", 0xFF, 0x1A⟩
    , ⟨.sacklen, "SACK_4", 0xFF, 0x22⟩
    , ⟨.sacklen, "SACK_BAD", 0x00, 0x00⟩ ]

/-- The rows of table `DNSLABEL`. -/
def rowsDnslabel : List Row :=
  [ ⟨.dnslabel, "DNS_TERM", 0xFF, 0x00⟩
    , ⟨.dnslabel, "DNS_LABEL", 0xC0, 0x00⟩
    , ⟨.dnslabel, "DNS_PTR", 0xC0, 0xC0⟩
    , ⟨.dnslabel, "DNS_RSV_01", 0xC0, 0x40⟩
    , ⟨.dnslabel, "DNS_RSV_10", 0xC0, 0x80⟩ ]

/-- The rows of table `DNSRR`. -/
def rowsDnsrr : List Row :=
  [ ⟨.dnsrr, "RR_A_IN", 0xFFFFFFFF, 0x00010001⟩
    , ⟨.dnsrr, "RR_NS_IN", 0xFFFFFFFF, 0x00020001⟩
    , ⟨.dnsrr, "RR_AAAA_IN", 0xFFFFFFFF, 0x001C0001⟩
    , ⟨.dnsrr, "RR_OTHER", 0x00000000, 0x00000000⟩ ]

/-- The rows of table `ARPOP`. -/
def rowsArpop : List Row :=
  [ ⟨.arpop, "ARP_REQUEST", 0xFFFF, 0x0001⟩
    , ⟨.arpop, "ARP_REPLY", 0xFFFF, 0x0002⟩
    , ⟨.arpop, "ARP_UNKNOWN", 0x0000, 0x0000⟩ ]

/-- The rows of table `IGMPTYPE`. -/
def rowsIgmptype : List Row :=
  [ ⟨.igmptype, "IGMP_QUERY", 0xFF, 0x11⟩
    , ⟨.igmptype, "IGMP_V1_REPORT", 0xFF, 0x12⟩
    , ⟨.igmptype, "IGMP_V2_REPORT", 0xFF, 0x16⟩
    , ⟨.igmptype, "IGMP_LEAVE", 0xFF, 0x17⟩
    , ⟨.igmptype, "IGMP_V3_REPORT", 0xFF, 0x22⟩
    , ⟨.igmptype, "IGMP_OTHER", 0x00, 0x00⟩ ]

/-- The rows of table `UDPPORT`. -/
def rowsUdpport : List Row :=
  [ ⟨.udpport, "UDP_DNS_SRC", 0xFFFF0000, 0x00350000⟩
    , ⟨.udpport, "UDP_DNS_DST", 0x0000FFFF, 0x00000035⟩
    , ⟨.udpport, "UDP_PLAIN", 0x00000000, 0x00000000⟩ ]

/-- The rows of table `TCPCLASS`. -/
def rowsTcpclass : List Row :=
  [ ⟨.tcpclass, "SEG_SYN_NOACK", 0x012, 0x002⟩
    , ⟨.tcpclass, "SEG_SYN_ACK", 0x012, 0x012⟩
    , ⟨.tcpclass, "SEG_ACK", 0x010, 0x010⟩
    , ⟨.tcpclass, "SEG_FIN", 0x001, 0x001⟩ ]

/-- spec/opcode_table.json: every row of the thirteen tables, in the table's order (R133 to R146). -/
def opcodeRows : List Row :=
  rowsLink ++ rowsEthertype ++ rowsNullfam ++ rowsLlcsap ++ rowsIpproto ++ rowsTcpopt ++ rowsSacklen ++ rowsDnslabel ++ rowsDnsrr ++ rowsArpop ++ rowsIgmptype ++ rowsUdpport ++ rowsTcpclass

/-- The match of R133: `c AND mask = match`. -/
def Row.hits (r : Row) (c : Nat) : Bool := c &&& r.mask == r.pattern

/-- The mnemonic of the first row of a table that matches a code (R133: the first match wins). -/
def firstRow (t : Table) (c : Nat) : Option String :=
  ((opcodeRows.filter (fun r => r.table == t)).find? (fun r => r.hits c)).map Row.mnemonic

/-! ## One word of the opcode table

A bare code names no table, and codes of different tables coincide (R133: a selector is a pair). A
word of the opcode table is therefore read by the tables whose codes fill as many bytes, in a fixed
order: first the link codes, then the rows with an exact code, then the rows with open bits. -/

/-- The selector of a one-byte word (see the assumption log, entry 3). -/
def byteWordSelector (w : Nat) : Selector :=
  let b := BitVec.ofNat 8 w
  if w < 8 then .link (BitVec.ofNat 3 w)
  else if namedProtocols.contains b then .ipproto b
  else if namedKinds.contains b then .tcpopt b
  else if [24#8, 28#8, 30#8].contains b then .nullfam b
  else if [10#8, 26#8, 34#8].contains b then .sacklen b
  else if [0x12#8, 0x16#8, 0x17#8].contains b then .igmptype b
  else if b = 0x10#8 then .tcpclass .ack 0x010#9
  else .dnslabel b

/-- The selector of a two-byte word (see the assumption log, entry 3). -/
def pairWordSelector (w : Nat) : Selector :=
  let c := BitVec.ofNat 16 w
  if c = 0xAAAA#16 then .llcsap c
  else if c = 1#16 ∨ c = 2#16 then .arpop c
  else if c = 0x0012#16 then .tcpclass .synAck 0x012#9
  else if c = 0x0010#16 then .tcpclass .ack 0x010#9
  else if c = 53#16 then .udpport 0x00000035#32
  else .ethertype c

/-- The selector of a four-byte word (see the assumption log, entry 3). -/
def quadWordSelector (w : Nat) : Selector :=
  let c := BitVec.ofNat 32 w
  if [0x00010001#32, 0x00020001#32, 0x001C0001#32].contains c then .dnsrr c
  else .udpport c

/-- The selector that a word of the opcode table stands for, by its width in bytes. -/
def tableWordSelector (nbits w : Nat) : Option Selector :=
  if nbits ≤ 8 then some (byteWordSelector w)
  else if nbits ≤ 16 then some (pairWordSelector w)
  else if nbits ≤ 32 then some (quadWordSelector w)
  else none

/-- The instruction that the decoder reads from a word of the opcode table, under the default
parameters. -/
def decodeTableWord (nbits w : Nat) : Option Instr :=
  match tableWordSelector nbits w with
  | none => none
  | some sel =>
    match decode Config.standard sel with
    | .ok i => some i
    | .error _ => none

end Sys2Proof
end

