-- ==== Sys2Proof/Machine/Records.lean ====
section
/-! DEFINITION. The data of the two agents: memories, decoded records (R36 to R45), partly built
headers (R177), tracker records (R46 to R52), and the numbers of the codes (R461, R462, R475). A record
that nests is split into its own fields (a header) and the payload it carries. -/

namespace Sys2Proof.Machine

/-! ## Memories -/

/-- A byte-addressed memory: (address, byte) pairs, addresses strictly rising, no byte equal to what
an unlisted address reads as. -/
abbrev Memory := List Host.Cell

/-- The host's capture buffer: its bytes at offsets 0 to `len - 1` (R80). -/
structure Buffer where
  cells : Memory
  len : Nat
  deriving DecidableEq, Repr

/-! ## Frame header and frame values -/

/-- A timestamp (R49, D50): a pair compared only for equality. -/
structure Time where
  sec : U32
  usec : U32
  deriving DecidableEq, Repr

/-- The four fields of the frame header (R111, R171). -/
structure FrameHdr where
  tsSec : U32
  tsUsec : U32
  capturedLength : U32
  originalLength : U32
  deriving DecidableEq, Repr

/-- A byte string in wire order; addresses have 6, 4 or 16 bytes (R45). -/
abbrev Bytes := List Byte

/-- A payload reference (R44, R88): it holds offsets, never bytes. -/
inductive DataRef where
  | absent
  | span (offset length available : Nat)
  deriving DecidableEq, Repr

/-- The checksum placeholder (R35): it has one value. -/
inductive ChecksumStatus where
  | unchecked
  deriving DecidableEq, Repr

/-! ## Link-layer headers (R38) -/

/-- The 802.1Q tag (R38, R113). -/
structure Vlan where
  priority : BitVec 3
  cfi : BitVec 1
  id : BitVec 12
  deriving DecidableEq, Repr

/-- The `Ethernet` fields (R38); `ethertype` is the type after any tag. -/
structure EthernetHdr where
  dst : Bytes
  src : Bytes
  vlan : Option Vlan
  ethertype : U16
  deriving DecidableEq, Repr

/-- The `Llc` fields (R38). -/
structure LlcHdr where
  dsap : Byte
  ssap : Byte
  control : Byte
  ethertype : U16
  deriving DecidableEq, Repr

/-- The `LinuxCooked` fields (R38). -/
structure SllHdr where
  packetType : U16
  addressType : U16
  addressLen : U16
  address : Bytes
  ethertype : U16
  deriving DecidableEq, Repr

/-- The `Null` fields (R38). -/
structure NullHdr where
  familyField : Bytes
  family : Byte
  deriving DecidableEq, Repr

/-- The link-layer variant of a frame (R38). -/
inductive LinkHdr where
  | ethernet (h : EthernetHdr)
  | llc (h : LlcHdr)
  | linuxCooked (h : SllHdr)
  | null (h : NullHdr)
  | raw
  deriving DecidableEq, Repr

/-! ## Network-layer headers (R39) and ARP -/

/-- The IPv4 flag field (R39, R231). -/
structure Ipv4Flags where
  reserved : Bool
  doNotFragment : Bool
  moreFragments : Bool
  deriving DecidableEq, Repr

/-- The fields of `Ipv4Rec` but its payload (R39). -/
structure Ipv4Hdr where
  version : BitVec 4
  headerLength : Nat
  dsfield : Byte
  totalLength : U16
  identification : U16
  flags : Ipv4Flags
  fragmentOffset : Nat
  ttl : Byte
  protocol : Byte
  checksum : U16
  checksumStatus : ChecksumStatus
  src : Bytes
  dst : Bytes
  deriving DecidableEq, Repr

/-- The fields of `Ipv6Rec` but its payload (R39). -/
structure Ipv6Hdr where
  version : BitVec 4
  trafficClass : Byte
  flowLabel : BitVec 20
  payloadLength : U16
  nextHeader : Byte
  hopLimit : Byte
  src : Bytes
  dst : Bytes
  deriving DecidableEq, Repr

/-- The fields of `HeaderExtension` but its payload (R40). -/
structure ExtHdr where
  protocol : Byte
  nextHeader : Byte
  lengthField : Byte
  headerLength : Nat
  deriving DecidableEq, Repr

/-- The class of an ARP operation (R39, R143). -/
inductive ArpClass where
  | request
  | reply
  | unknown
  deriving DecidableEq, Repr

/-- `ArpRec` (R39). -/
structure ArpRec where
  hardwareType : U16
  protocolType : U16
  hlen : Byte
  plen : Byte
  operation : U16
  opClass : ArpClass
  senderHw : Bytes
  senderProto : Bytes
  targetHw : Bytes
  targetProto : Bytes
  deriving DecidableEq, Repr

/-! ## Transport and leaf records -/

/-- The nine TCP flags (R41, R121). -/
structure TcpFlags where
  ns : Bool
  cwr : Bool
  ece : Bool
  urg : Bool
  ack : Bool
  psh : Bool
  rst : Bool
  syn : Bool
  fin : Bool
  deriving DecidableEq, Repr

/-- The timestamp option (R41). -/
structure TcpTimestamp where
  value : U32
  echo : U32
  deriving DecidableEq, Repr

/-- `TcpOptions` (R41). -/
structure TcpOptions where
  mss : Option U16
  windowScale : Option Byte
  sackPermitted : Bool
  sack : Option (List (U32 × U32))
  timestamp : Option TcpTimestamp
  deriving DecidableEq, Repr

/-- `TcpRec` (R41). -/
structure TcpRec where
  srcPort : U16
  dstPort : U16
  seqno : U32
  ackno : U32
  headerLength : Nat
  reserved : BitVec 3
  flags : TcpFlags
  window : U16
  checksum : U16
  checksumStatus : ChecksumStatus
  urgentPointer : U16
  options : TcpOptions
  dataLength : Nat
  data : DataRef
  deriving DecidableEq, Repr

/-- A DNS label: a byte string of 1 to 63 bytes (R43). -/
abbrev Label := List Byte

/-- A DNS name; the root is the empty list (R43). -/
abbrev DnsName := List Label

/-- The DNS flag word (R43, R125). -/
structure DnsFlags where
  qr : Bool
  opcode : BitVec 4
  aa : Bool
  tc : Bool
  rd : Bool
  ra : Bool
  z : BitVec 3
  rcode : BitVec 4
  deriving DecidableEq, Repr

/-- A question record (R43, R127). -/
structure Question where
  name : DnsName
  qtype : U16
  qclass : U16
  deriving DecidableEq, Repr

/-- Record data (R43). -/
inductive RData where
  | a (address : Bytes)
  | ns (name : DnsName)
  | aaaa (address : Bytes)
  | unresolved
  deriving DecidableEq, Repr

/-- An answer, authority or additional record (R43, R128). -/
structure RR where
  name : DnsName
  rtype : U16
  rclass : U16
  ttl : U32
  rdlength : U16
  rdata : RData
  deriving DecidableEq, Repr

/-- Why a section was not decoded (R43, R352). -/
inductive MalformedReason where
  | ceiling
  | skipped
  deriving DecidableEq, Repr

/-- A DNS section (R43). -/
inductive Section (α : Type) where
  | decoded (items : List α)
  | malformed (count : U16) (reason : MalformedReason)
  deriving DecidableEq, Repr

/-- `DnsMsg` (R43). -/
structure DnsMsg where
  id : U16
  flags : DnsFlags
  qdcount : U16
  ancount : U16
  nscount : U16
  arcount : U16
  questions : Section Question
  answers : Section RR
  authorities : Section RR
  additionals : Section RR
  deriving DecidableEq, Repr

/-- `UdpRec` (R42). -/
structure UdpRec where
  srcPort : U16
  dstPort : U16
  length : U16
  checksum : U16
  checksumStatus : ChecksumStatus
  data : DataRef
  dns : Option DnsMsg
  deriving DecidableEq, Repr

/-- `IcmpRec` (R42). -/
structure IcmpRec where
  icmpType : Byte
  icmpCode : Byte
  checksum : U16
  checksumStatus : ChecksumStatus
  deriving DecidableEq, Repr

/-- `IgmpRec` (R42). -/
structure IgmpRec where
  igmpType : Byte
  maxResponseTime : Byte
  checksum : U16
  checksumStatus : ChecksumStatus
  group : Bytes
  version : Option IgmpVersion
  deriving DecidableEq, Repr

/-! ## Payload variants and frames -/

/-- The results of the protocol-number dispatch (R40). -/
inductive ProtoPayload where
  | icmp (r : IcmpRec)
  | igmp (r : IgmpRec)
  | ipv4 (h : Ipv4Hdr) (payload : ProtoPayload)
  | tcp (r : TcpRec)
  | udp (r : UdpRec)
  | ipv6 (h : Ipv6Hdr) (payload : ProtoPayload)
  | noNext
  | headerExtension (h : ExtHdr) (payload : ProtoPayload)
  deriving DecidableEq, Repr

/-- The results of the ethertype and NULL family dispatches (R39). -/
inductive NetPayload where
  | ipv4 (h : Ipv4Hdr) (payload : ProtoPayload)
  | ipv6 (h : Ipv6Hdr) (payload : ProtoPayload)
  | arp (r : ArpRec)
  | unknown (code : U16)
  deriving DecidableEq, Repr

/-- A link-layer payload (R38): the variant's own fields and the network payload. -/
structure LinkPayload where
  hdr : LinkHdr
  payload : NetPayload
  deriving DecidableEq, Repr

/-- `DecodedFrame` (R37). -/
structure DecodedFrame where
  linkType : BitVec 3
  capturedAt : Time
  originalLength : U32
  capturedLength : U32
  payload : LinkPayload
  deriving DecidableEq, Repr

/-! ## Codes, diagnostics and responses -/

/-- The fatal codes (R461). Codes 17 to 31 are reserved and never produced (U37). -/
inductive FatalCode where
  | bufferShort
  | unsupportedLinkType
  | truncated
  | ethertypeIsLength
  | llcBadSap
  | nullBadFamily
  | arpUnsupported
  | ipProtoUnknown
  | headerLengthInvalid
  | lengthUnderflow
  | noNextTrailing
  | tcpOptionUnknownKind
  | tcpOptionBadLength
  | dnsPointerLimit
  | dnsBadLabelType
  | depthLimit
  deriving DecidableEq, Repr

/-- The four sections of a DNS message (R350). -/
inductive SectionKind where
  | question
  | answer
  | authority
  | additional
  deriving DecidableEq, Repr

/-- The parser diagnostics (R462). -/
inductive Diag where
  | unknownEthertype (code : U16) (off : Nat)
  | dnsSectionMalformed (kind : SectionKind) (count : U16) (off : Nat)
  | dnsRdataLength (rtype : U16) (rdlength : U16) (off : Nat)
  deriving DecidableEq, Repr

/-- The outcome flag `STATUS` (R31, R34). -/
inductive Status where
  | running
  | ok
  | fatal
  deriving DecidableEq, Repr

/-- A response (R36). -/
inductive Response where
  | ok (frame : DecodedFrame) (diags : List Diag)
  | err (code : FatalCode) (off : Nat) (diags : List Diag)
  deriving DecidableEq, Repr

/-! ## Tracker records -/

/-- An endpoint (R47). -/
structure Endpoint where
  addr : Bytes
  port : U16
  deriving DecidableEq, Repr

/-- A flow key (R47): `lo ≤ hi` in the order of R403. -/
structure FlowKey where
  lo : Endpoint
  hi : Endpoint
  deriving DecidableEq, Repr

/-- The flow states (R51). -/
inductive FlowState where
  | closed
  | synSent
  | synRecv
  | estab
  | finWait
  | closeWait
  | closing
  | lastAck
  deriving DecidableEq, Repr

/-- `DirectionalCounters` (R50). The three maps are lists of pairs with strictly rising keys. -/
structure DirectionalCounters where
  isn : Option U32
  windowScale : Option Byte
  ipBytes : Nat
  tcpBytes : Nat
  payloadBytes : Nat
  packets : List (Nat × Time)
  acks : List (Nat × Time)
  retrans : List (Nat × Nat)
  deriving DecidableEq, Repr

/-- `TcpFlow` (R49). -/
structure TcpFlow where
  key : FlowKey
  state : FlowState
  fresh : Bool
  src : Option Endpoint
  dst : Option Endpoint
  synTime : Option Time
  connectTime : Option Time
  closeTime : Option Time
  send : DirectionalCounters
  recv : DirectionalCounters
  deriving DecidableEq, Repr

/-- A direction of a flow (R413). -/
inductive Direction where
  | send
  | recv
  deriving DecidableEq, Repr

/-- The signal and tracker-diagnostic codes (R48, R52). -/
inductive SignalCode where
  | session
  | synRetry
  | reset
  | start
  | dataSend
  | dataRecv
  | retransmit
  | finished
  | nonMatching
  | registryFull
  deriving DecidableEq, Repr

/-- The argument of a signal (R48). -/
inductive SignalArg where
  | none
  | data (ref : DataRef)
  | boundary (direction : Direction) (key : Nat)
  deriving DecidableEq, Repr

/-- A signal (R48). -/
structure Signal where
  code : SignalCode
  key : FlowKey
  arg : SignalArg
  deriving DecidableEq, Repr

/-- A segment (R402). -/
structure Segment where
  src : Endpoint
  dst : Endpoint
  tcp : TcpRec
  time : Time
  ipHdrBytes : Nat
  tcpHdrBytes : Nat
  payloadBytes : Nat
  deriving DecidableEq, Repr

end Sys2Proof.Machine
end

