-- ==== Sys2Proof/Machine/State.lean ====
section
/-! DEFINITION. The state of the block (R30 to R34, R46), what a step may stop with, and the reset
value (R53, R54, R500, R501). -/

namespace Sys2Proof.Machine

/-! ## Reasons to stop -/

/-- What stops the machine with a fault. No rule of the spec stops the block: a fatal decode error
is a response (R464) and `observe` cannot fail (R467). Both faults stand for a state that no run
reaches, where a rule has no record to act on, and both are safe: the model stops and invents no
effect. -/
inductive Fault where
  /-- Raised by the delivery of a finished protocol payload when no IPv4 or IPv6 record lies under
  it (R39, R40: only those two carry one). Safe. -/
  | noNetHeader
  /-- Raised by a row of `TCPCLASS` when no `observe` call is in progress (R405). Safe. -/
  | noObservation
  deriving DecidableEq, Repr

/-- Why a step has no meaning. -/
inductive Refusal where
  /-- Raised by an arm of `exec` for an instruction that has no meaning yet. Safe. -/
  | notModelled (mnemonic : String)
  /-- Raised by the fetch when the parser's selector names no row: only `TCPCLASS`, which is the
  tracker's and never the parser's, has codes without a row (R133). Safe. -/
  | noRow (sel : Selector)
  deriving DecidableEq, Repr

/-! ## The host's calls -/

/-- A call that the host makes (R56, R502). -/
inductive Call where
  /-- `decode(linkType, h, buf)` (R170): `header` is the 16-byte header space (R81). -/
  | decode (linkType : BitVec 3) (header : Memory) (buf : Buffer)
  /-- `observe(frame)` (R400). -/
  | observe (frame : DecodedFrame)
  deriving DecidableEq, Repr

/-! ## The parser -/

/-- What the current request reads: the request ports (R56), the parsed frame header (R171) and
`B_len` (R80). -/
structure Request where
  linkType : BitVec 3
  header : Memory
  hdr : FrameHdr
  buf : Buffer
  blen : Nat
  deriving DecidableEq, Repr

/-- The decode-context registers (R31). -/
structure Ctx where
  off : Nat
  rem : Int
  sel : Selector
  depth : Nat
  hops : Nat
  dnsbase : Nat
  dnsend : Nat
  optend : Nat
  diag : List Diag
  status : Status
  err : Option (FatalCode × Nat)
  deriving DecidableEq, Repr

/-- An outermost network header that awaits its payload (R39, R177). -/
inductive NetHdr where
  | ipv4 (h : Ipv4Hdr)
  | ipv6 (h : Ipv6Hdr)
  deriving DecidableEq, Repr

/-- A header reached through a protocol number that awaits its payload (R40, R177). -/
inductive ProtoHdr where
  | ipv4 (h : Ipv4Hdr)
  | ipv6 (h : Ipv6Hdr)
  | ext (h : ExtHdr)
  deriving DecidableEq, Repr

/-- What a DNS name is decoded for (R353, R354, R363). -/
inductive NameUse where
  | question
  | owner
  | nsData
  deriving DecidableEq, Repr

/-- The partly built DNS message (R350 to R355): the local variables of the rules. `cursor` is the
record cursor `c`, `cur` the name cursor, `rdStart` the data start `d`. -/
structure DnsWork where
  msg : DnsMsg
  pending : List SectionKind
  current : Option SectionKind
  left : Nat
  questions : List Question
  records : List RR
  cursor : Nat
  labels : DnsName
  cur : Nat
  resume : Option Nat
  nameUse : NameUse
  rr : RR
  rdStart : Nat
  deriving DecidableEq, Repr

/-- The partly built records of a request (R177), and the arguments of the pending transfer: `next`
is the offset `n` that a dispatch hands to the decoder it selects (R192, R236), `cur` the cursor `i`
of the option loop (R294). -/
structure Work where
  next : Nat
  link : LinkHdr
  net : Option NetHdr
  inner : List ProtoHdr
  tcp : TcpRec
  cur : Nat
  udp : UdpRec
  igmp : IgmpRec
  arp : ArpRec
  dns : DnsWork
  deriving DecidableEq, Repr

/-! ## The tracker -/

/-- The working values of one `observe` call (R400): the segment, its key, the flow as found or
created, the signals so far, and the row of `TCPCLASS` that the flow's rule tests, if any (R405). -/
structure Observation where
  seg : Segment
  key : FlowKey
  flow : TcpFlow
  out : List Signal
  row : Option ClassRow
  deriving DecidableEq, Repr

/-! ## The machine -/

/-- What the next step does (the step view of R177). -/
inductive Mode where
  /-- Between calls (R473): take the next call, if there is one. -/
  | idle
  /-- Run the row that `SEL` selects. -/
  | row
  /-- The head of the TCP option loop (R294). -/
  | options
  /-- The head of the DNS name loop (R355). -/
  | name
  /-- A DNS name is complete: read the fields after it (R353, R354, R363). -/
  | afterName
  /-- The head of the DNS section loops (R350, R352). -/
  | sections
  /-- Build the frame around a finished network payload (R175). -/
  | deliverNet (p : NetPayload)
  /-- Build the frame around a finished protocol payload (R175). -/
  | deliverProto (p : ProtoPayload)
  /-- Apply the transition of the `observe` call in progress (R405). -/
  | observe
  deriving DecidableEq, Repr

/-- The state of the block. `calls` holds the host's calls not yet taken, oldest first; `responses`
and `observed` hold what the calls returned, oldest first (R36, R400). -/
structure State where
  cfg : Config
  mode : Mode
  calls : List Call
  responses : List Response
  observed : List (List Signal)
  req : Request
  ctx : Ctx
  work : Work
  registry : List (FlowKey × TcpFlow)
  obs : Option Observation
  deriving DecidableEq, Repr

/-- The outcome of a step. -/
abbrev Out := Host.Outcome State Fault Refusal

/-! ## Updates -/

/-- Set the mode. -/
def State.setMode (s : State) (m : Mode) : State := { s with mode := m }

/-- Set the decode context. -/
def State.setCtx (s : State) (c : Ctx) : State := { s with ctx := c }

/-- Set the partly built records. -/
def State.setWork (s : State) (w : Work) : State := { s with work := w }

/-! ## Reset values -/

/-- The decode context at the start of a request (R53). -/
def Ctx.reset (linkType : BitVec 3) : Ctx :=
  { off := 0
    rem := 0
    sel := .link linkType
    depth := 0
    hops := 0
    dnsbase := 0
    dnsend := 0
    optend := 0
    diag := []
    status := .running
    err := none }

/-- The empty option record (R41, R294). -/
def TcpOptions.empty : TcpOptions :=
  { mss := none, windowScale := none, sackPermitted := false, sack := none, timestamp := none }

/-- All nine TCP flags clear. -/
def TcpFlags.clear : TcpFlags :=
  { ns := false, cwr := false, ece := false, urg := false, ack := false, psh := false,
    rst := false, syn := false, fin := false }

/-- A TCP record with every field zero or empty. -/
def TcpRec.blank : TcpRec :=
  { srcPort := 0#16, dstPort := 0#16, seqno := 0#32, ackno := 0#32, headerLength := 0,
    reserved := 0#3, flags := TcpFlags.clear, window := 0#16, checksum := 0#16,
    checksumStatus := .unchecked, urgentPointer := 0#16, options := TcpOptions.empty,
    dataLength := 0, data := .absent }

/-- A UDP record with every field zero or empty. -/
def UdpRec.blank : UdpRec :=
  { srcPort := 0#16, dstPort := 0#16, length := 0#16, checksum := 0#16,
    checksumStatus := .unchecked, data := .absent, dns := none }

/-- An IGMP record with every field zero or empty. -/
def IgmpRec.blank : IgmpRec :=
  { igmpType := 0#8, maxResponseTime := 0#8, checksum := 0#16, checksumStatus := .unchecked,
    group := [], version := none }

/-- An ARP record with every field zero or empty. -/
def ArpRec.blank : ArpRec :=
  { hardwareType := 0#16, protocolType := 0#16, hlen := 0#8, plen := 0#8, operation := 0#16,
    opClass := .unknown, senderHw := [], senderProto := [], targetHw := [], targetProto := [] }

/-- A DNS flag record with every field zero. -/
def DnsFlags.clear : DnsFlags :=
  { qr := false, opcode := 0#4, aa := false, tc := false, rd := false, ra := false, z := 0#3,
    rcode := 0#4 }

/-- A DNS message with zero counts and empty sections. -/
def DnsMsg.blank : DnsMsg :=
  { id := 0#16, flags := DnsFlags.clear, qdcount := 0#16, ancount := 0#16, nscount := 0#16,
    arcount := 0#16, questions := .decoded [], answers := .decoded [],
    authorities := .decoded [], additionals := .decoded [] }

/-- A resource record with every field zero or empty. -/
def RR.blank : RR :=
  { name := [], rtype := 0#16, rclass := 0#16, ttl := 0#32, rdlength := 0#16,
    rdata := .unresolved }

/-- No DNS message under way. -/
def DnsWork.empty : DnsWork :=
  { msg := DnsMsg.blank, pending := [], current := none, left := 0, questions := [], records := [],
    cursor := 0, labels := [], cur := 0, resume := none, nameUse := .question, rr := RR.blank,
    rdStart := 0 }

/-- No record under way (assumption log, entry 5). -/
def Work.empty : Work :=
  { next := 0, link := .raw, net := none, inner := [], tcp := TcpRec.blank, cur := 0,
    udp := UdpRec.blank, igmp := IgmpRec.blank, arp := ArpRec.blank, dns := DnsWork.empty }

/-- The request ports before any request (assumption log, entry 6). -/
def Request.none : Request :=
  { linkType := 0#3, header := [], hdr := ⟨0#32, 0#32, 0#32, 0#32⟩, buf := ⟨[], 0⟩, blen := 0 }

/-- The machine after reset: the parser idle with its context at the values of R53 (R500), the
tracker's registry empty (R54, R501), the parameters at their defaults (R6). -/
def State.reset : State :=
  { cfg := Config.standard
    mode := .idle
    calls := []
    responses := []
    observed := []
    req := Request.none
    ctx := Ctx.reset 0#3
    work := Work.empty
    registry := []
    obs := none }

end Sys2Proof.Machine
end

