-- ==== Sys2Proof/Machine/Ops.lean ====
section
/-! DEFINITION. The named operations: memories and their canonical form, byte order (R83, R85), the
bounded reads (R84, R367), payload references (R88), the fatal error as the one exception of the block
(R464) and the start of a request that follows it (R466), diagnostics (R462), `enter` (R176), the
control transfers (R32), the delivery of a frame (R175), and the numbers of the codes. -/

namespace Sys2Proof.Machine

/-! ## Memories -/

/-- What an address that a memory does not list reads as (assumption log, entry 7). -/
def unlistedByte : Byte := 0#8

/-- The byte at an address. -/
def Memory.read : Memory → Nat → Byte
  | [], _ => unlistedByte
  | (x, b) :: rest, a => if x = a then b else Memory.read rest a

/-- Put a byte at an address and keep the canonical form. -/
def Memory.write : Memory → Nat → Byte → Memory
  | [], a, b => if b = unlistedByte then [] else [(a, b)]
  | (x, c) :: rest, a, b =>
    if a < x then
      if b = unlistedByte then (x, c) :: rest else (a, b) :: (x, c) :: rest
    else if a = x then
      if b = unlistedByte then rest else (a, b) :: rest
    else (x, c) :: Memory.write rest a b

/-- Every address is at least `lo`, addresses rise strictly, and no byte is the unlisted one. -/
def Memory.wfFrom : Nat → Memory → Bool
  | _, [] => true
  | lo, (x, b) :: rest => decide (lo ≤ x) && b != unlistedByte && Memory.wfFrom (x + 1) rest

/-- The canonical form of a memory. -/
def Memory.wf (m : Memory) : Bool := Memory.wfFrom 0 m

/-- Every listed address is below `n`. -/
def Memory.below (n : Nat) (m : Memory) : Bool := m.all (fun c => decide (c.1 < n))

/-- A buffer is canonical and lists no byte at or past its length. -/
def Buffer.wf (b : Buffer) : Bool := b.cells.wf && b.cells.below b.len

/-- The memory that holds a byte string from an address on. -/
def Memory.place : Memory → Nat → Bytes → Memory
  | m, _, [] => m
  | m, a, b :: rest => Memory.place (m.write a b) (a + 1) rest

/-- The memory of a byte string at address 0. -/
def Memory.ofBytes (l : Bytes) : Memory := Memory.place [] 0 l

/-- The buffer of a byte string. -/
def Buffer.ofBytes (l : Bytes) : Buffer := { cells := Memory.ofBytes l, len := l.length }

/-- The byte string of `n` bytes at an address. -/
def Memory.slice (m : Memory) (a : Nat) : Nat → Bytes
  | 0 => []
  | n + 1 => m.read a :: Memory.slice m (a + 1) n

/-! ## Byte order -/

/-- The loop of R84: `v * 256 + b` over the bytes, the lowest offset first. -/
def bigEndian (l : Bytes) : Nat := l.foldl (fun v b => v * 256 + b.toNat) 0

/-- `rdle32` of R85: the lowest offset is the least significant byte. -/
def littleEndian : Bytes → Nat
  | [] => 0
  | b :: rest => b.toNat + 256 * littleEndian rest

/-! ## What the parser reads -/

/-- The byte at a buffer offset. -/
def State.u8 (s : State) (a : Nat) : Byte := BitVec.ofNat 8 (bigEndian (s.req.buf.cells.slice a 1))

/-- The big-endian 16-bit value at a buffer offset (R83). -/
def State.u16 (s : State) (a : Nat) : U16 := BitVec.ofNat 16 (bigEndian (s.req.buf.cells.slice a 2))

/-- The big-endian 32-bit value at a buffer offset (R83). -/
def State.u32 (s : State) (a : Nat) : U32 := BitVec.ofNat 32 (bigEndian (s.req.buf.cells.slice a 4))

/-- The byte string at a buffer offset. -/
def State.bytes (s : State) (a n : Nat) : Bytes := s.req.buf.cells.slice a n

/-- The bound check of R84: the bytes `a .. a + n - 1` lie below `B_len`. -/
def State.readable (s : State) (a n : Nat) : Bool := decide (a + n ≤ s.req.blen)

/-- The bound check of a DNS read (R367): inside the window `[DNSBASE, DNSEND)` and below `B_len`. -/
def State.dnsReadable (s : State) (a n : Nat) : Bool :=
  decide (s.ctx.dnsbase ≤ a) && decide (a + n ≤ s.ctx.dnsend) && s.readable a n

/-! ## The fatal error -/

/-- The state after `raise Fatal(code, off)` (R464): `ERR` and `STATUS` are set, every partly built
record is discarded, and the request answers `Err` with the diagnostics emitted so far (R465). -/
def State.raised (s : State) (code : FatalCode) (off : Nat) : State :=
  { s with
    mode := .idle
    ctx := { s.ctx with err := some (code, off), status := .fatal }
    work := Work.empty
    responses := s.responses ++ [.err code off s.ctx.diag] }

/-- `raise Fatal(code, off)` (R464). -/
def State.raise (s : State) (code : FatalCode) (off : Nat) : Out := .next (s.raised code off)

/-- The start of a request, which is also the only way on after a fatal error (R466, R500): every
context register takes its reset value and no partly built record is left. -/
def State.beginRequest (s : State) (linkType : BitVec 3) (header : Memory) (hdr : FrameHdr)
    (buf : Buffer) : State :=
  { s with
    mode := .row
    req := { linkType := linkType, header := header, hdr := hdr, buf := buf, blen := 0 }
    ctx := Ctx.reset linkType
    work := Work.empty }

/-! ## Bounded reads

Each read hands the value to what follows, or raises `TRUNCATED` at its first byte. -/

/-- `rd8(a)` (R9, R84). -/
def rd8 (s : State) (a : Nat) (k : Byte → Out) : Out :=
  if s.readable a 1 then k (s.u8 a) else s.raise .truncated a

/-- `rd16(a)` (R9, R84). -/
def rd16 (s : State) (a : Nat) (k : U16 → Out) : Out :=
  if s.readable a 2 then k (s.u16 a) else s.raise .truncated a

/-- `rd32(a)` (R9, R84). -/
def rd32 (s : State) (a : Nat) (k : U32 → Out) : Out :=
  if s.readable a 4 then k (s.u32 a) else s.raise .truncated a

/-- `bytes(a, n)` (R9, R84). -/
def rdBytes (s : State) (a n : Nat) (k : Bytes → Out) : Out :=
  if s.readable a n then k (s.bytes a n) else s.raise .truncated a

/-- `drd8(a)` (R367). -/
def drd8 (s : State) (a : Nat) (k : Byte → Out) : Out :=
  if s.dnsReadable a 1 then k (s.u8 a) else s.raise .truncated a

/-- `drd16(a)` (R367). -/
def drd16 (s : State) (a : Nat) (k : U16 → Out) : Out :=
  if s.dnsReadable a 2 then k (s.u16 a) else s.raise .truncated a

/-- `drd32(a)` (R367). -/
def drd32 (s : State) (a : Nat) (k : U32 → Out) : Out :=
  if s.dnsReadable a 4 then k (s.u32 a) else s.raise .truncated a

/-- `dbytes(a, n)` (R367): bounded by `DNSEND`, then by `B_len`. -/
def dbytes (s : State) (a n : Nat) (k : Bytes → Out) : Out :=
  if a + n ≤ s.ctx.dnsend then rdBytes s a n k else s.raise .truncated a

/-- `ref(a, n)` (R88): it never raises, and `available` counts the bytes that lie in the buffer. -/
def State.ref (s : State) (a n : Nat) : DataRef := .span a n (min n (s.req.blen - a))

/-- The bytes that a reference in response `r` denotes (R90): those the buffer holds while the host
keeps it, which here is until it hands in the next buffer, so only for the newest response. After that
the dereference is refused (U24); a byte past `available` does not exist (U25), and an absent payload
has none (R44). -/
def State.spanBytes (s : State) (r : Nat) : DataRef → Option Bytes
  | .absent => none
  | .span offset _ available =>
    if s.ctx.status = .ok ∧ s.responses.length = r + 1 then some (s.bytes offset available) else none

/-! ## Diagnostics and the decode context -/

/-- `diag(code, args)` (R462): append to `DIAG`. -/
def State.addDiag (s : State) (d : Diag) : State :=
  s.setCtx { s.ctx with diag := s.ctx.diag ++ [d] }

/-- A depth that `MAX_LAYER_DEPTH` does not allow (R176, R474). -/
def Config.tooDeep (cfg : Config) (depth : Nat) : Bool :=
  match cfg.maxLayerDepth with
  | none => false
  | some n => decide (n < depth)

/-- A header decoder has begun at an offset: `OFF` is set and `DEPTH` counts it (R176). -/
def State.entered (s : State) (o : Nat) : State :=
  s.setCtx { s.ctx with off := o, depth := s.ctx.depth + 1 }

/-- `ctx.OFF <- o ; enter()` (R176): the depth limit raises at the header being entered (R474). -/
def enter (s : State) (o : Nat) (k : State → Out) : Out :=
  if Config.tooDeep s.cfg (s.ctx.depth + 1) then (s.entered o).raise .depthLimit o else k (s.entered o)

/-- The pending transfer of a dispatch (R32, R133): `SEL` names the table and the code, and the
decoder that it selects will start at offset `n`. -/
def State.jump (s : State) (sel : Selector) (n : Nat) : State :=
  ((s.setCtx { s.ctx with sel := sel }).setWork { s.work with next := n }).setMode .row

/-- A table look-up that moves no header (R133): `SEL` names the table and the code. -/
def State.look (s : State) (sel : Selector) : State :=
  (s.setCtx { s.ctx with sel := sel }).setMode .row

/-- `dispatchEther(t, n)` up to the row it selects (R192). -/
def State.dispatchEther (s : State) (t : U16) (n : Nat) : State := s.jump (.ethertype t) n

/-- `dispatchProto(p, n, rem)` up to the row it selects (R236). -/
def State.dispatchProto (s : State) (p : Byte) (n : Nat) (rem : Int) : State :=
  (s.setCtx { s.ctx with rem := rem }).jump (.ipproto p) n

/-- A network payload is finished (R32: a terminal record). -/
def State.finishNet (s : State) (p : NetPayload) : State := s.setMode (.deliverNet p)

/-- A protocol payload is finished (R32: a terminal record). -/
def State.finishProto (s : State) (p : ProtoPayload) : State := s.setMode (.deliverProto p)

/-! ## Delivery of the frame -/

/-- Put a finished payload into the header that awaits it (R177: pop). -/
def ProtoHdr.wrap (p : ProtoPayload) : ProtoHdr → ProtoPayload
  | .ipv4 h => .ipv4 h p
  | .ipv6 h => .ipv6 h p
  | .ext h => .headerExtension h p

/-- Put a finished payload into the outermost network header (R39). -/
def NetHdr.wrap (p : ProtoPayload) : NetHdr → NetPayload
  | .ipv4 h => .ipv4 h p
  | .ipv6 h => .ipv6 h p

/-- Put a finished payload into the headers that await it, the innermost first (R177). -/
def wrapInner (inner : List ProtoHdr) (p : ProtoPayload) : ProtoPayload := inner.foldl ProtoHdr.wrap p

/-- The frame of a request (R170, R175). -/
def State.frame (s : State) (np : NetPayload) : DecodedFrame :=
  { linkType := s.req.linkType
    capturedAt := { sec := s.req.hdr.tsSec, usec := s.req.hdr.tsUsec }
    originalLength := s.req.hdr.originalLength
    capturedLength := s.req.hdr.capturedLength
    payload := { hdr := s.work.link, payload := np } }

/-- The response `Ok` (R36, R170): `STATUS` is `OK`, and no partly built record is left. -/
def State.respond (s : State) (np : NetPayload) : State :=
  { s with
    mode := .idle
    ctx := { s.ctx with status := .ok }
    work := Work.empty
    responses := s.responses ++ [.ok (s.frame np) s.ctx.diag] }

/-- Deliver a finished network payload (R175). -/
def deliverNet (s : State) (np : NetPayload) : Out := .next (s.respond np)

/-- Deliver a finished protocol payload through the headers that await it (R175, R177). -/
def deliverProto (s : State) (p : ProtoPayload) : Out :=
  match s.work.net with
  | none => .fault .noNetHeader
  | some h => .next (s.respond (h.wrap (wrapInner s.work.inner p)))

/-! ## Numbers of the codes -/

/-- The numbers of the fatal codes (R461): 5 bits, 0 means no error. -/
def FatalCode.value : FatalCode → BitVec 5
  | .bufferShort => 1#5
  | .unsupportedLinkType => 2#5
  | .truncated => 3#5
  | .ethertypeIsLength => 4#5
  | .llcBadSap => 5#5
  | .nullBadFamily => 6#5
  | .arpUnsupported => 7#5
  | .ipProtoUnknown => 8#5
  | .headerLengthInvalid => 9#5
  | .lengthUnderflow => 10#5
  | .noNextTrailing => 11#5
  | .tcpOptionUnknownKind => 12#5
  | .tcpOptionBadLength => 13#5
  | .dnsPointerLimit => 14#5
  | .dnsBadLabelType => 15#5
  | .depthLimit => 16#5

/-- The numbers of the parser diagnostics (R462). -/
def Diag.value : Diag → Byte
  | .unknownEthertype _ _ => 0x81#8
  | .dnsSectionMalformed _ _ _ => 0x82#8
  | .dnsRdataLength _ _ _ => 0x83#8

/-- The numbers of the signals (R475). -/
def SignalCode.value : SignalCode → Byte
  | .session => 1#8
  | .synRetry => 2#8
  | .reset => 3#8
  | .start => 4#8
  | .dataSend => 5#8
  | .dataRecv => 6#8
  | .retransmit => 7#8
  | .finished => 8#8
  | .nonMatching => 0xC1#8
  | .registryFull => 0xC2#8
end Sys2Proof.Machine
end

