-- ==== Sys2Proof/Machine/Flags.lean ====
section
/-! DEFINITION. The flag fields: IPv4 (R231), TCP (R291) and its nine-bit word (R121), DNS (R351), and
the segment predicates of table `TCPCLASS` (R146). -/

namespace Sys2Proof.Machine

/-- The flags of the IPv4 field at offset 6 (R231). -/
def ipv4Flags (ff : U16) : Ipv4Flags :=
  { reserved := ff.getLsbD 15, doNotFragment := ff.getLsbD 14, moreFragments := ff.getLsbD 13 }

/-- `tcpFlags(b12, b13)` (R291). -/
def tcpFlags (b12 b13 : Byte) : TcpFlags :=
  { ns := b12.getLsbD 0
    cwr := b13.getLsbD 7
    ece := b13.getLsbD 6
    urg := b13.getLsbD 5
    ack := b13.getLsbD 4
    psh := b13.getLsbD 3
    rst := b13.getLsbD 2
    syn := b13.getLsbD 1
    fin := b13.getLsbD 0 }

/-- The flags as the nine-bit word of R121, NS at bit 8 and FIN at bit 0: the key of `TCPCLASS`. -/
def TcpFlags.word (f : TcpFlags) : BitVec 9 :=
  BitVec.ofBool f.ns ++ BitVec.ofBool f.cwr ++ BitVec.ofBool f.ece ++ BitVec.ofBool f.urg
    ++ BitVec.ofBool f.ack ++ BitVec.ofBool f.psh ++ BitVec.ofBool f.rst ++ BitVec.ofBool f.syn
    ++ BitVec.ofBool f.fin

/-- The flag record of a nine-bit word (R121). -/
def TcpFlags.ofWord (w : BitVec 9) : TcpFlags :=
  { ns := w.getLsbD 8
    cwr := w.getLsbD 7
    ece := w.getLsbD 6
    urg := w.getLsbD 5
    ack := w.getLsbD 4
    psh := w.getLsbD 3
    rst := w.getLsbD 2
    syn := w.getLsbD 1
    fin := w.getLsbD 0 }

/-- `dnsFlags(f)` (R351). -/
def dnsFlags (f : U16) : DnsFlags :=
  { qr := f.getLsbD 15
    opcode := f.extractLsb' 11 4
    aa := f.getLsbD 10
    tc := f.getLsbD 9
    rd := f.getLsbD 8
    ra := f.getLsbD 7
    z := f.extractLsb' 4 3
    rcode := f.extractLsb' 0 4 }

/-- The four predicates of `TCPCLASS` on one segment (R146). -/
structure Classes where
  synNoAck : Bool
  synAck : Bool
  ack : Bool
  fin : Bool
  deriving DecidableEq, Repr

/-- Test each row of `TCPCLASS` on its own (R146). -/
def classesOf (w : BitVec 9) : Classes :=
  { synNoAck := ClassRow.synNoAck.holds w
    synAck := ClassRow.synAck.holds w
    ack := ClassRow.ack.holds w
    fin := ClassRow.fin.holds w }

end Sys2Proof.Machine
end

