-- ==== Sys2Proof/Machine/Operands.lean ====
section
/-! DEFINITION. The operand forms: the assembled and scaled fields of the formats (R131, R132) and the
small classifications of the tables. -/

namespace Sys2Proof.Machine

/-- The 802.1Q tag control information (R113, R191). -/
def vlanTag (tci : U16) : Vlan :=
  { priority := tci.extractLsb' 13 3, cfi := tci.extractLsb' 12 1, id := tci.extractLsb' 0 12 }

/-- The IPv4 version nibble (R117, R230). -/
def ipv4Version (vb : Byte) : BitVec 4 := vb.extractLsb' 4 4

/-- The IPv4 header length in 32-bit words (R117, R230). -/
def ipv4Ihl (vb : Byte) : Nat := (vb.extractLsb' 0 4).toNat

/-- The fragment offset in bytes (R132, R231). -/
def fragmentOffset (ff : U16) : Nat := (ff.extractLsb' 0 13).toNat * 8

/-- The version in the first IPv6 word (R118, R234). -/
def ipv6Version (w : U32) : BitVec 4 := w.extractLsb' 28 4

/-- The traffic class in the first IPv6 word (R118, R234). -/
def ipv6TrafficClass (w : U32) : Byte := w.extractLsb' 20 8

/-- The flow label in the first IPv6 word (R118, R234). -/
def ipv6FlowLabel (w : U32) : BitVec 20 := w.extractLsb' 0 20

/-- `ipv6Remaining(o)` (R235). -/
def ipv6Remaining (basis : Ipv6Basis) (blen o : Nat) : Int :=
  match basis with
  | .absolute => (blen : Int) - 40
  | .relative => (blen : Int) - (o : Int) - 40

/-- The length of an extension header in bytes (R119, R246). -/
def extensionLength (lf : Byte) : Nat := (lf.toNat + 1) * 8

/-- The TCP data offset in 32-bit words (R121, R290). -/
def tcpDataOffset (b12 : Byte) : Nat := (b12.extractLsb' 4 4).toNat

/-- The TCP reserved bits (R121, R290). -/
def tcpReserved (b12 : Byte) : BitVec 3 := b12.extractLsb' 1 3

/-- `nullFamily(f0 f1 f2 f3)` (R204): both branches, exactly as stated. -/
def nullFamily (f0 f1 f3 : Byte) : Byte := if f0 = 0#8 ∧ f1 = 0#8 then f3 else f0

/-- The significant bytes of the SLL address field (R132, R202). -/
def sllAddress (addressLen : U16) (raw : Bytes) : Bytes := raw.take (min addressLen.toNat 8)

/-- The code of a UDP port pair in `UDPPORT` (R133, R305). -/
def portCode (srcPort dstPort : U16) : BitVec 32 := srcPort ++ dstPort

/-- The code of a record type and class in `DNSRR` (R133, R354). -/
def recordCode (rtype rclass : U16) : BitVec 32 := rtype ++ rclass

/-- The code of a SAP pair in `LLCSAP` (R133, R198). -/
def sapCode (dsap ssap : Byte) : BitVec 16 := dsap ++ ssap

/-- The 14-bit offset of a compression pointer (R126, R358). -/
def pointerOffset (high : BitVec 6) (low : Byte) : Nat := high.toNat * 256 + low.toNat

/-- `parseHeader(h)` (R171): four little-endian fields (R85). -/
def parseHeader (h : Memory) : FrameHdr :=
  { tsSec := BitVec.ofNat 32 (littleEndian (h.slice 0 4))
    tsUsec := BitVec.ofNat 32 (littleEndian (h.slice 4 4))
    capturedLength := BitVec.ofNat 32 (littleEndian (h.slice 8 4))
    originalLength := BitVec.ofNat 32 (littleEndian (h.slice 12 4)) }

end Sys2Proof.Machine
end

