-- ==== Sys2Proof/Machine/Network.lean ====
section
/-! DEFINITION. The network-layer decoders, the rows of table `IPPROTO` but their transport decoders,
and the rows of table `ARPOP` (R230 to R249). -/

namespace Sys2Proof.Machine

/-! ## Headers that await a payload -/

/-- An IPv4 header is the network payload of the link layer (R39). -/
def State.pushNetIpv4 (s : State) (h : Ipv4Hdr) : State :=
  s.setWork { s.work with net := some (.ipv4 h), inner := [] }

/-- An IPv6 header is the network payload of the link layer (R39). -/
def State.pushNetIpv6 (s : State) (h : Ipv6Hdr) : State :=
  s.setWork { s.work with net := some (.ipv6 h), inner := [] }

/-- A header reached through a protocol number (R40, R177: push). -/
def State.pushInner (s : State) (h : ProtoHdr) : State :=
  s.setWork { s.work with inner := h :: s.work.inner }

/-- A nested IPv4 header (R239). -/
def State.pushInnerIpv4 (s : State) (h : Ipv4Hdr) : State := s.pushInner (.ipv4 h)

/-- A nested IPv6 header (R242). -/
def State.pushInnerIpv6 (s : State) (h : Ipv6Hdr) : State := s.pushInner (.ipv6 h)

/-! ## Decoders -/

/-- `decodeIpv4(o)` (R230 to R233); `push` says whose payload the header is. -/
def decodeIpv4 (s : State) (o : Nat) (push : State → Ipv4Hdr → State) : Out :=
  enter s o fun s =>
  rd8 s o fun vb =>
  let hl := ipv4Ihl vb * 4
  if ipv4Ihl vb < 5 then s.raise .headerLengthInvalid o else
  rd8 s (o + 1) fun ds =>
  rd16 s (o + 2) fun tl =>
  rd16 s (o + 4) fun ident =>
  rd16 s (o + 6) fun ff =>
  rd8 s (o + 8) fun ttl =>
  rd8 s (o + 9) fun p =>
  rd16 s (o + 10) fun ck =>
  rdBytes s (o + 12) 4 fun src =>
  rdBytes s (o + 16) 4 fun dst =>
  if tl.toNat < hl then s.raise .lengthUnderflow (o + 2) else
  .next ((push s
    { version := ipv4Version vb, headerLength := hl, dsfield := ds, totalLength := tl,
      identification := ident, flags := ipv4Flags ff, fragmentOffset := fragmentOffset ff,
      ttl := ttl, protocol := p, checksum := ck, checksumStatus := .unchecked,
      src := src, dst := dst }).dispatchProto p (o + hl) ((tl.toNat : Int) - (hl : Int)))

/-- `decodeIpv6(o)` (R234, R235); `push` says whose payload the header is. -/
def decodeIpv6 (s : State) (o : Nat) (push : State → Ipv6Hdr → State) : Out :=
  enter s o fun s =>
  rd32 s o fun w =>
  rd16 s (o + 4) fun plen =>
  rd8 s (o + 6) fun nh =>
  rd8 s (o + 7) fun hop =>
  rdBytes s (o + 8) 16 fun src =>
  rdBytes s (o + 24) 16 fun dst =>
  .next ((push s
    { version := ipv6Version w, trafficClass := ipv6TrafficClass w, flowLabel := ipv6FlowLabel w,
      payloadLength := plen, nextHeader := nh, hopLimit := hop, src := src,
      dst := dst }).dispatchProto nh (o + 40) (ipv6Remaining s.cfg.ipv6RemainingBasis s.req.blen o))

/-- `decodeExt(p, o, rem)` (R246). -/
def decodeExt (s : State) (p : Byte) : Out :=
  let o := s.work.next
  enter s o fun s =>
  rd8 s o fun nh =>
  rd8 s (o + 1) fun lf =>
  let hl := extensionLength lf
  if s.ctx.rem < (hl : Int) then s.raise .lengthUnderflow (o + 1) else
  .next ((s.pushInner (.ext
    { protocol := p, nextHeader := nh, lengthField := lf,
      headerLength := hl })).dispatchProto nh (o + hl) (s.ctx.rem - (hl : Int)))

/-- `decodeNoNext(o, rem)` (R247). -/
def decodeNoNext (s : State) (o : Nat) : Out :=
  enter s o fun s =>
  if s.ctx.rem ≠ 0 then s.raise .noNextTrailing o else .next (s.finishProto .noNext)

/-- `decodeArp(o)` up to the class of the operation (R248). -/
def decodeArp (s : State) (o : Nat) : Out :=
  enter s o fun s =>
  rd16 s o fun ht =>
  rd16 s (o + 2) fun pt =>
  rd8 s (o + 4) fun hl =>
  rd8 s (o + 5) fun pl =>
  rd16 s (o + 6) fun op =>
  if ¬(hl = 6#8 ∧ pl = 4#8) then s.raise .arpUnsupported (o + 4) else
  rdBytes s (o + 8) 6 fun sha =>
  rdBytes s (o + 14) 4 fun spa =>
  rdBytes s (o + 18) 6 fun tha =>
  rdBytes s (o + 24) 4 fun tpa =>
  .next ((s.setWork
    { s.work with
      arp :=
        { hardwareType := ht, protocolType := pt, hlen := hl, plen := pl, operation := op,
          opClass := .unknown, senderHw := sha, senderProto := spa, targetHw := tha,
          targetProto := tpa } }).look (.arpop op))

/-- Finish the ARP record with the class of its operation (R248, R249). -/
def State.finishArp (s : State) (c : ArpClass) : State :=
  s.finishNet (.arp { s.work.arp with opClass := c })

/-! ## Table ARPOP -/

/-- Row `ARP_REQUEST` (R249). -/
def execArpRequest (s : State) : Out := .next (s.finishArp .request)

/-- Row `ARP_REPLY` (R249). -/
def execArpReply (s : State) : Out := .next (s.finishArp .reply)

/-- Row `ARP_UNKNOWN` (R249): not an error. -/
def execArpUnknown (_operation : BitVec 16) (s : State) : Out := .next (s.finishArp .unknown)

/-! ## Table IPPROTO: the network rows -/

/-- Row `P_IPV4` (R239). -/
def execPIpv4 (s : State) : Out := decodeIpv4 s s.work.next State.pushInnerIpv4

/-- Row `P_IPV6` (R242). -/
def execPIpv6 (s : State) : Out := decodeIpv6 s s.work.next State.pushInnerIpv6

/-- Row `P_NONEXT` (R243). -/
def execPNoNext (s : State) : Out := decodeNoNext s s.work.next

/-- Row `P_EXT_0` (R244). -/
def execPExt0 (s : State) : Out := decodeExt s 0#8

/-- Row `P_EXT_43` (R244). -/
def execPExt43 (s : State) : Out := decodeExt s 43#8

/-- Row `P_EXT_51` (R244). -/
def execPExt51 (s : State) : Out := decodeExt s 51#8

/-- Row `P_EXT_60` (R244). -/
def execPExt60 (s : State) : Out := decodeExt s 60#8

/-- Row `P_EXT_135` (R244). -/
def execPExt135 (s : State) : Out := decodeExt s 135#8

/-- Row `P_EXT_139` (R244). -/
def execPExt139 (s : State) : Out := decodeExt s 139#8

/-- Row `P_EXT_140` (R244). -/
def execPExt140 (s : State) : Out := decodeExt s 140#8

/-- Row `P_UNKNOWN` (R245): raised at the header that held the number. -/
def execPUnknown (_protocol : BitVec 8) (s : State) : Out := s.raise .ipProtoUnknown s.ctx.off

end Sys2Proof.Machine
end

