-- ==== Sys2Proof/Machine/Transport.lean ====
section
/-! DEFINITION. The transport and leaf decoders: TCP with its option loop, UDP up to the port look-up,
ICMP and IGMP (R290 to R310); the rows of tables `TCPOPT`, `SACKLEN` and `IGMPTYPE`. -/

namespace Sys2Proof.Machine

/-! ## TCP -/

/-- `decodeTcp(o, rem)` up to the option loop (R290). -/
def decodeTcp (s : State) (o : Nat) : Out :=
  enter s o fun s =>
  rd16 s o fun sp =>
  rd16 s (o + 2) fun dp =>
  rd32 s (o + 4) fun seq =>
  rd32 s (o + 8) fun ack =>
  rd8 s (o + 12) fun b12 =>
  rd8 s (o + 13) fun b13 =>
  let hl := tcpDataOffset b12 * 4
  if tcpDataOffset b12 < 5 then s.raise .headerLengthInvalid (o + 12) else
  rd16 s (o + 14) fun win =>
  rd16 s (o + 16) fun ck =>
  rd16 s (o + 18) fun urp =>
  .next (((s.setCtx { s.ctx with optend := o + hl }).setWork
    { s.work with
      cur := o + 20
      tcp :=
        { srcPort := sp, dstPort := dp, seqno := seq, ackno := ack, headerLength := hl,
          reserved := tcpReserved b12, flags := tcpFlags b12 b13, window := win, checksum := ck,
          checksumStatus := .unchecked, urgentPointer := urp, options := TcpOptions.empty,
          dataLength := 0, data := .absent } }).setMode .options)

/-- `tcpData(o, hl, rem)` and the end of `decodeTcp` (R290, R293). -/
def tcpFinish (s : State) : Out :=
  let o := s.ctx.off
  let t := s.work.tcp
  let hl := t.headerLength
  if s.ctx.rem < (hl : Int) then s.raise .lengthUnderflow o else
  let dl := (s.ctx.rem - (hl : Int)).toNat
  if dl = 0 then
    .next (s.finishProto (.tcp { t with dataLength := 0, data := .absent }))
  else
    .next (s.finishProto (.tcp { t with dataLength := dl, data := s.ref (o + hl) dl }))

/-- Row `P_TCP` (R240). -/
def execPTcp (s : State) : Out := decodeTcp s s.work.next

/-! ## The option loop

The cursor `i` is `work.cur`, the end of the area is `OPTEND` (R294). -/

/-- Go back to the head of the loop with new options and a new cursor (R294). -/
def State.optionDone (s : State) (opts : TcpOptions) (i : Nat) : State :=
  (s.setWork { s.work with tcp := { s.work.tcp with options := opts }, cur := i }).setMode .options

/-- `optLen(i, end)` (R304). -/
def optLen (s : State) (k : Byte → Out) : Out :=
  if s.work.cur + 2 ≤ s.ctx.optend then rd8 s (s.work.cur + 1) k
  else s.raise .tcpOptionBadLength s.work.cur

/-- `fits(i, l, end)` (R304). -/
def fits (s : State) (l : Nat) (k : Out) : Out :=
  if s.work.cur + l ≤ s.ctx.optend then k else s.raise .tcpOptionBadLength s.work.cur

/-- The length byte, and the check of a kind of fixed size (R297 to R299, R301). -/
def optFixed (s : State) (size : Byte) (k : Out) : Out :=
  optLen s fun l => if l ≠ size then s.raise .tcpOptionBadLength s.work.cur else k

/-- Row `OPT_EOL` (R295): the bytes after it, up to `OPTEND`, are skipped. -/
def execOptEol (s : State) : Out := .next (s.optionDone s.work.tcp.options s.ctx.optend)

/-- Row `OPT_NOP` (R296). -/
def execOptNop (s : State) : Out := .next (s.optionDone s.work.tcp.options (s.work.cur + 1))

/-- Row `OPT_MSS` (R297). -/
def execOptMss (s : State) : Out :=
  optFixed s 4#8 <| fits s 4 <|
  rd16 s (s.work.cur + 2) fun v =>
  .next (s.optionDone { s.work.tcp.options with mss := some v } (s.work.cur + 4))

/-- Row `OPT_WSCALE` (R298). -/
def execOptWscale (s : State) : Out :=
  optFixed s 3#8 <| fits s 3 <|
  rd8 s (s.work.cur + 2) fun v =>
  .next (s.optionDone { s.work.tcp.options with windowScale := some v } (s.work.cur + 3))

/-- Row `OPT_SACKOK` (R299). -/
def execOptSackOk (s : State) : Out :=
  optFixed s 2#8 <|
  .next (s.optionDone { s.work.tcp.options with sackPermitted := true } (s.work.cur + 2))

/-- Row `OPT_SACK` (R300) up to the look-up of the declared length. -/
def execOptSack (s : State) : Out := optLen s fun l => .next (s.look (.sacklen l))

/-- Row `OPT_TS` (R301). -/
def execOptTs (s : State) : Out :=
  optFixed s 10#8 <| fits s 10 <|
  rd32 s (s.work.cur + 2) fun v =>
  rd32 s (s.work.cur + 6) fun e =>
  .next (s.optionDone
    { s.work.tcp.options with timestamp := some { value := v, echo := e } } (s.work.cur + 10))

/-- `optExp(i, end)` (R302): the data bytes are skipped, not read. -/
def optExp (s : State) : Out :=
  optLen s fun l =>
  if l.toNat < 2 then s.raise .tcpOptionBadLength s.work.cur else
  fits s l.toNat <| .next (s.optionDone s.work.tcp.options (s.work.cur + l.toNat))

/-- Row `OPT_EXP_254` (R302). -/
def execOptExp254 (s : State) : Out := optExp s

/-- Row `OPT_EXP_255` (R302). -/
def execOptExp255 (s : State) : Out := optExp s

/-- Row `OPT_BAD` (R303). -/
def execOptBad (_kind : BitVec 8) (s : State) : Out := s.raise .tcpOptionUnknownKind s.work.cur

/-! ## Table SACKLEN -/

/-- Read `n` pairs of edges from an offset on (R300). -/
def sackPairs (s : State) (a : Nat) : Nat → (List (U32 × U32) → Out) → Out
  | 0, k => k []
  | n + 1, k =>
    rd32 s a fun left =>
    rd32 s (a + 4) fun right =>
    sackPairs s (a + 8) n fun rest => k ((left, right) :: rest)

/-- A SACK option of `n` pairs (R300): the declared length is `8 n + 2`. -/
def sackBlocks (s : State) (n : Nat) : Out :=
  fits s (8 * n + 2) <|
  sackPairs s (s.work.cur + 2) n fun blocks =>
  .next (s.optionDone { s.work.tcp.options with sack := some blocks } (s.work.cur + (8 * n + 2)))

/-- Row `SACK_1` (R140, R300). -/
def execSack1 (s : State) : Out := sackBlocks s 1

/-- Row `SACK_2` (R140, R300). -/
def execSack2 (s : State) : Out := sackBlocks s 2

/-- Row `SACK_3` (R140, R300). -/
def execSack3 (s : State) : Out := sackBlocks s 3

/-- Row `SACK_4` (R140, R300). -/
def execSack4 (s : State) : Out := sackBlocks s 4

/-- Row `SACK_BAD` (R140, R300). -/
def execSackBad (_length : BitVec 8) (s : State) : Out := s.raise .tcpOptionBadLength s.work.cur

/-! ## UDP, ICMP and IGMP -/

/-- `decodeUdp(o)` up to the port look-up (R305). -/
def decodeUdp (s : State) (o : Nat) : Out :=
  enter s o fun s =>
  rd16 s o fun sp =>
  rd16 s (o + 2) fun dp =>
  rd16 s (o + 4) fun ln =>
  rd16 s (o + 6) fun ck =>
  if ln.toNat < 8 then s.raise .lengthUnderflow (o + 4) else
  .next ((s.setWork
    { s.work with
      udp :=
        { srcPort := sp, dstPort := dp, length := ln, checksum := ck, checksumStatus := .unchecked,
          data := s.ref (o + 8) (ln.toNat - 8), dns := none } }).look (.udpport (portCode sp dp)))

/-- `decodeIcmp(o)` (R307). -/
def decodeIcmp (s : State) (o : Nat) : Out :=
  enter s o fun s =>
  rd8 s o fun t =>
  rd8 s (o + 1) fun c =>
  rd16 s (o + 2) fun ck =>
  .next (s.finishProto (.icmp
    { icmpType := t, icmpCode := c, checksum := ck, checksumStatus := .unchecked }))

/-- `decodeIgmp(o)` up to the version look-up (R308). -/
def decodeIgmp (s : State) (o : Nat) : Out :=
  enter s o fun s =>
  rd8 s o fun t =>
  rd8 s (o + 1) fun mrt =>
  rd16 s (o + 2) fun ck =>
  rdBytes s (o + 4) 4 fun g =>
  .next ((s.setWork
    { s.work with
      igmp :=
        { igmpType := t, maxResponseTime := mrt, checksum := ck, checksumStatus := .unchecked,
          group := g, version := none } }).look (.igmptype t))

/-- Finish the IGMP record with its version (R308, R309). -/
def State.finishIgmp (s : State) (v : Option IgmpVersion) : State :=
  s.finishProto (.igmp { s.work.igmp with version := v })

/-- Row `P_ICMP` (R237). -/
def execPIcmp (s : State) : Out := decodeIcmp s s.work.next

/-- Row `P_IGMP` (R238). -/
def execPIgmp (s : State) : Out := decodeIgmp s s.work.next

/-- Row `P_UDP` (R241). -/
def execPUdp (s : State) : Out := decodeUdp s s.work.next

/-! ## Table IGMPTYPE: the version column of the parameter `IGMP_VERSION_TABLE` (R144, R309) -/

/-- Row `IGMP_QUERY` (R309). -/
def execIgmpQuery (s : State) : Out :=
  .next (s.finishIgmp (some s.cfg.igmpVersionTable.query.version))

/-- Row `IGMP_V1_REPORT` (R309). -/
def execIgmpV1Report (s : State) : Out :=
  .next (s.finishIgmp (some s.cfg.igmpVersionTable.v1Report.version))

/-- Row `IGMP_V2_REPORT` (R309). -/
def execIgmpV2Report (s : State) : Out :=
  .next (s.finishIgmp (some s.cfg.igmpVersionTable.v2Report.version))

/-- Row `IGMP_LEAVE` (R309). -/
def execIgmpLeave (s : State) : Out :=
  .next (s.finishIgmp (some s.cfg.igmpVersionTable.leave.version))

/-- Row `IGMP_V3_REPORT` (R309). -/
def execIgmpV3Report (s : State) : Out :=
  .next (s.finishIgmp (some s.cfg.igmpVersionTable.v3Report.version))

/-- Row `IGMP_OTHER` (R309): no version, and no error. -/
def execIgmpOther (_code : BitVec 8) (s : State) : Out := .next (s.finishIgmp none)

end Sys2Proof.Machine
end

