-- ==== Sys2Proof/Machine/Dns.lean ====
section
/-! DEFINITION. The DNS message decoder (R350 to R368): the rows of tables `UDPPORT`, `DNSLABEL` and
`DNSRR`, and the loops that lead from one row to the next. -/

namespace Sys2Proof.Machine

/-- Set the partly built DNS message. -/
def State.setDns (s : State) (d : DnsWork) : State := s.setWork { s.work with dns := d }

/-! ## Header and sections -/

/-- `decodeDns(p, n)` up to the first section (R350): the window, then the twelve header bytes. -/
def decodeDns (s : State) (p n : Nat) : Out :=
  let s := s.setCtx { s.ctx with dnsbase := p, dnsend := min (p + n) s.req.blen }
  drd16 s p fun id =>
  drd16 s (p + 2) fun fl =>
  drd16 s (p + 4) fun qd =>
  drd16 s (p + 6) fun an =>
  drd16 s (p + 8) fun ns =>
  drd16 s (p + 10) fun ar =>
  .next ((s.setDns
    { DnsWork.empty with
      msg :=
        { DnsMsg.blank with
          id := id, flags := dnsFlags fl, qdcount := qd, ancount := an, nscount := ns,
          arcount := ar }
      pending := [.question, .answer, .authority, .additional]
      cursor := p + 12 }).setMode .sections)

/-- The declared count of a section (R350). -/
def DnsMsg.count (m : DnsMsg) : SectionKind → U16
  | .question => m.qdcount
  | .answer => m.ancount
  | .authority => m.nscount
  | .additional => m.arcount

/-- Mark a section as not decoded (R352). -/
def DnsMsg.malform (m : DnsMsg) (reason : MalformedReason) : SectionKind → DnsMsg
  | .question => { m with questions := .malformed m.qdcount reason }
  | .answer => { m with answers := .malformed m.ancount reason }
  | .authority => { m with authorities := .malformed m.nscount reason }
  | .additional => { m with additionals := .malformed m.arcount reason }

/-- Mark each of a list of sections as skipped (R352). -/
def DnsMsg.skip (m : DnsMsg) (ks : List SectionKind) : DnsMsg :=
  ks.foldl (fun m k => m.malform .skipped k) m

/-- Store the records of a decoded section (R352). -/
def DnsMsg.store (m : DnsMsg) (qs : List Question) (rs : List RR) : SectionKind → DnsMsg
  | .question => { m with questions := .decoded qs }
  | .answer => { m with answers := .decoded rs }
  | .authority => { m with authorities := .decoded rs }
  | .additional => { m with additionals := .decoded rs }

/-- The start of `name(c)` (R355): `HOPS` is 0 and no label is read yet. -/
def State.startName (s : State) (c : Nat) (u : NameUse) : State :=
  ((s.setCtx { s.ctx with hops := 0 }).setDns
    { s.work.dns with labels := [], cur := c, resume := none, nameUse := u }).setMode .name

/-- Begin the section `k`, or mark it malformed when its count is above the ceiling (R352). -/
def openSection (s : State) (k : SectionKind) (later : List SectionKind) : State :=
  let d := s.work.dns
  let cnt := d.msg.count k
  if s.cfg.dnsRrCeiling < cnt.toNat then
    (s.addDiag (.dnsSectionMalformed k cnt d.cursor)).setDns
      { d with msg := (d.msg.malform .ceiling k).skip later, pending := [], current := none }
  else
    s.setDns { d with pending := later, current := some k, left := cnt.toNat, questions := [],
                      records := [] }

/-- The head of the section loops (R350, R352): read the next record of the current section, close
the section, open the next one, or finish the message and with it the UDP record. -/
def sectionsHead (s : State) : Out :=
  let d := s.work.dns
  match d.current with
  | some k =>
    if d.left = 0 then
      .next (s.setDns { d with msg := d.msg.store d.questions d.records k, current := none,
                               questions := [], records := [] })
    else
      .next (s.startName d.cursor (if k = .question then .question else .owner))
  | none =>
    match d.pending with
    | [] => .next (s.finishProto (.udp { s.work.udp with dns := some d.msg }))
    | k :: later => .next (openSection s k later)

/-! ## Records -/

/-- One question is complete (R353). -/
def State.questionDone (s : State) (q : Question) (c : Nat) : State :=
  (s.setDns { s.work.dns with questions := s.work.dns.questions ++ [q],
                              left := s.work.dns.left - 1, cursor := c }).setMode .sections

/-- One resource record is complete (R354): the cursor is `d + rl`, whatever the data decoder read. -/
def State.recordDone (s : State) (data : RData) : State :=
  (s.setDns { s.work.dns with
      records := s.work.dns.records ++ [{ s.work.dns.rr with rdata := data }]
      left := s.work.dns.left - 1
      cursor := s.work.dns.rdStart + s.work.dns.rr.rdlength.toNat }).setMode .sections

/-- The fields after a name (R353, R354), or the end of NS data (R363). -/
def afterName (s : State) : Out :=
  let d := s.work.dns
  let c := d.cursor
  match d.nameUse with
  | .question =>
    drd16 s c fun t =>
    drd16 s (c + 2) fun cl =>
    .next (s.questionDone { name := d.labels, qtype := t, qclass := cl } (c + 4))
  | .owner =>
    drd16 s c fun t =>
    drd16 s (c + 2) fun cl =>
    drd32 s (c + 4) fun ttl =>
    drd16 s (c + 8) fun rl =>
    if s.ctx.dnsend < c + 10 + rl.toNat then s.raise .truncated (c + 10) else
    .next ((s.setDns
      { d with
        rr := { name := d.labels, rtype := t, rclass := cl, ttl := ttl, rdlength := rl,
                rdata := .unresolved }
        rdStart := c + 10 }).look (.dnsrr (recordCode t cl)))
  | .nsData => .next (s.recordDone (.ns d.labels))

/-! ## Table UDPPORT -/

/-- Decode the UDP payload as DNS (R305, R306): it starts 8 bytes after the UDP header's offset. -/
def udpDns (s : State) : Out := decodeDns s (s.ctx.off + 8) (s.work.udp.length.toNat - 8)

/-- Row `UDP_DNS_SRC` (R306). -/
def execUdpDnsSrc (_dstPort : BitVec 16) (s : State) : Out := udpDns s

/-- Row `UDP_DNS_DST` (R306). -/
def execUdpDnsDst (_srcPort : BitVec 16) (s : State) : Out := udpDns s

/-- Row `UDP_PLAIN` (R306). -/
def execUdpPlain (_srcPort _dstPort : BitVec 16) (s : State) : Out :=
  .next (s.finishProto (.udp { s.work.udp with dns := none }))

/-! ## Table DNSLABEL -/

/-- Row `DNS_TERM` (R357): the record cursor goes on after the terminator, or after the first
pointer (R361). -/
def execDnsTerm (s : State) : Out :=
  .next ((s.setDns { s.work.dns with
      cursor := s.work.dns.resume.getD (s.work.dns.cur + 1) }).setMode .afterName)

/-- Row `DNS_LABEL` (R356): that many bytes follow the length byte. -/
def execDnsLabel (length : BitVec 6) (s : State) : Out :=
  dbytes s (s.work.dns.cur + 1) length.toNat fun l =>
  .next ((s.setDns { s.work.dns with
      labels := s.work.dns.labels ++ [l]
      cur := s.work.dns.cur + 1 + length.toNat }).setMode .name)

/-- Row `DNS_PTR` (R358): the hop limit is tested before the pointer is followed (R360). -/
def execDnsPtr (high : BitVec 6) (s : State) : Out :=
  drd8 s (s.work.dns.cur + 1) fun low =>
  let d := s.work.dns
  let s := (s.setCtx { s.ctx with hops := s.ctx.hops + 1 }).setDns
    { d with resume := some (d.resume.getD (d.cur + 2)) }
  if s.cfg.dnsMaxPtrHops < s.ctx.hops then s.raise .dnsPointerLimit d.cur else
  .next ((s.setDns
    { s.work.dns with cur := s.ctx.dnsbase + pointerOffset high low }).setMode .name)

/-- Row `DNS_RSV_01` (R359). -/
def execDnsRsv01 (_low : BitVec 6) (s : State) : Out := s.raise .dnsBadLabelType s.work.dns.cur

/-- Row `DNS_RSV_10` (R359). -/
def execDnsRsv10 (_low : BitVec 6) (s : State) : Out := s.raise .dnsBadLabelType s.work.dns.cur

/-! ## Table DNSRR -/

/-- An A or AAAA record whose `rdlength` is not the size of its address (R366): tolerated. -/
def rdataMismatch (s : State) (rtype : U16) : Out :=
  .next ((s.addDiag (.dnsRdataLength rtype s.work.dns.rr.rdlength s.work.dns.rdStart)).recordDone
    .unresolved)

/-- Row `RR_A_IN` (R362). -/
def execRrAIn (s : State) : Out :=
  if s.work.dns.rr.rdlength = 4#16 then
    dbytes s s.work.dns.rdStart 4 fun a => .next (s.recordDone (.a a))
  else rdataMismatch s 1#16

/-- Row `RR_NS_IN` (R363): the data is a name with its own hop count. -/
def execRrNsIn (s : State) : Out := .next (s.startName s.work.dns.rdStart .nsData)

/-- Row `RR_AAAA_IN` (R364). -/
def execRrAaaaIn (s : State) : Out :=
  if s.work.dns.rr.rdlength = 16#16 then
    dbytes s s.work.dns.rdStart 16 fun a => .next (s.recordDone (.aaaa a))
  else rdataMismatch s 28#16

/-- Row `RR_OTHER` (R365): the data bytes are not read. -/
def execRrOther (_code : BitVec 32) (s : State) : Out := .next (s.recordDone .unresolved)

end Sys2Proof.Machine
end

