-- ==== Sys2Proof/Machine/Link.lean ====
section
/-! DEFINITION. The rows of tables `LINK`, `ETHERTYPE`, `NULLFAM` and `LLCSAP`: the link-layer decoders
and the ethertype dispatch (R173, R174, R190 to R207). -/

namespace Sys2Proof.Machine

/-- Record the link-layer fields. -/
def State.setLink (s : State) (h : LinkHdr) : State := s.setWork { s.work with link := h }

/-! ## Table LINK -/

/-- `decodeEthernet(o)` (R190), with the tag of R191. -/
def decodeEthernet (s : State) (o : Nat) : Out :=
  enter s o fun s =>
  rdBytes s o 6 fun dst =>
  rdBytes s (o + 6) 6 fun src =>
  rd16 s (o + 12) fun t =>
  if t = s.cfg.vlanTpid then
    rd16 s (o + 14) fun tci =>
    rd16 s (o + 16) fun t =>
    .next ((s.setLink (.ethernet
      { dst := dst, src := src, vlan := some (vlanTag tci), ethertype := t })).dispatchEther t (o + 18))
  else
    .next ((s.setLink (.ethernet
      { dst := dst, src := src, vlan := none, ethertype := t })).dispatchEther t (o + 14))

/-- `decodeNull(o)` up to the family look-up (R203). -/
def decodeNull (s : State) (o : Nat) : Out :=
  enter s o fun s =>
  rdBytes s o 4 fun f =>
  let fam := nullFamily (s.u8 o) (s.u8 (o + 1)) (s.u8 (o + 3))
  .next ((s.setLink (.null { familyField := f, family := fam })).jump (.nullfam fam) (o + 4))

/-- `decodeSll(o)` (R202). -/
def decodeSll (s : State) (o : Nat) : Out :=
  enter s o fun s =>
  rd16 s o fun pt =>
  rd16 s (o + 2) fun at' =>
  rd16 s (o + 4) fun al =>
  rdBytes s (o + 6) 8 fun raw =>
  rd16 s (o + 14) fun t =>
  .next ((s.setLink (.linuxCooked
    { packetType := pt, addressType := at', addressLen := al, address := sllAddress al raw,
      ethertype := t })).dispatchEther t (o + 16))

/-- `decodeLlc(o)` up to the SAP look-up (R198). -/
def decodeLlc (s : State) (o : Nat) : Out :=
  enter s o fun s =>
  rd8 s o fun dsap =>
  rd8 s (o + 1) fun ssap =>
  .next ((s.setLink (.llc { dsap := dsap, ssap := ssap, control := 0#8, ethertype := 0#16 })).jump
    (.llcsap (sapCode dsap ssap)) (o + 8))

/-- Row `LT_ETHERNET` (R173, R190). -/
def execLtEthernet (s : State) : Out := decodeEthernet s 0

/-- Row `LT_NULL` (R173, R203). -/
def execLtNull (s : State) : Out := decodeNull s 0

/-- Row `LT_RAW_IPV4` (R174): no link-layer header, IPv4 at offset 0. -/
def execLtRawIpv4 (s : State) : Out := decodeIpv4 (s.setLink .raw) 0 State.pushNetIpv4

/-- Row `LT_LINUX_SLL` (R173, R202). -/
def execLtLinuxSll (s : State) : Out := decodeSll s 0

/-- Row `LT_LLC` (R173, R198). -/
def execLtLlc (s : State) : Out := decodeLlc s 0

/-- Row `LT_OTHER` (R173): codes 5 to 7. -/
def execLtOther (_code : BitVec 3) (s : State) : Out := s.raise .unsupportedLinkType 0

/-! ## Table ETHERTYPE -/

/-- Row `ET_IPV4` (R193). -/
def execEtIpv4 (s : State) : Out := decodeIpv4 s s.work.next State.pushNetIpv4

/-- Row `ET_ARP` (R194). -/
def execEtArp (s : State) : Out := decodeArp s s.work.next

/-- Row `ET_IPV6` (R195). -/
def execEtIpv6 (s : State) : Out := decodeIpv6 s s.work.next State.pushNetIpv6

/-- Types below `ETHERTYPE_MIN` raise at the type field, two bytes before the next header (R196). -/
def raiseLength (s : State) : Out := s.raise .ethertypeIsLength (s.work.next - 2)

/-- Row `ET_LEN_LO` (R196). -/
def execEtLenLo (_code : BitVec 16) (s : State) : Out := raiseLength s

/-- Row `ET_LEN_HI` (R196). -/
def execEtLenHi (_code : BitVec 16) (s : State) : Out := raiseLength s

/-- Row `ET_UNKNOWN` (R197): a diagnostic and the placeholder `Unknown`. -/
def execEtUnknown (code : BitVec 16) (s : State) : Out :=
  .next ((s.addDiag (.unknownEthertype code (s.work.next - 2))).finishNet (.unknown code))

/-! ## Table NULLFAM -/

/-- Row `NF_INET` (R205). -/
def execNfInet (s : State) : Out := decodeIpv4 s s.work.next State.pushNetIpv4

/-- Row `NF_INET6_24` (R206). -/
def execNfInet6v24 (s : State) : Out := decodeIpv6 s s.work.next State.pushNetIpv6

/-- Row `NF_INET6_28` (R206). -/
def execNfInet6v28 (s : State) : Out := decodeIpv6 s s.work.next State.pushNetIpv6

/-- Row `NF_INET6_30` (R206). -/
def execNfInet6v30 (s : State) : Out := decodeIpv6 s s.work.next State.pushNetIpv6

/-- Row `NF_OTHER` (R207). -/
def execNfOther (_family : BitVec 8) (s : State) : Out := s.raise .nullBadFamily s.ctx.off

/-! ## Table LLCSAP -/

/-- The rest of `decodeLlc` after a decodable SAP pair (R198): the control byte, three skipped bytes,
and the ethertype. -/
def llcRest (s : State) (dsap ssap : Byte) : Out :=
  rd8 s (s.ctx.off + 2) fun control =>
  rd16 s (s.ctx.off + 6) fun t =>
  .next ((s.setLink (.llc
    { dsap := dsap, ssap := ssap, control := control, ethertype := t })).dispatchEther t (s.ctx.off + 8))

/-- Row `LLC_SNAP` (R199). -/
def execLlcSnap (s : State) : Out := llcRest s 0xAA#8 0xAA#8

/-- Row `LLC_BASIC` (R200). -/
def execLlcBasic (s : State) : Out := llcRest s 0x00#8 0x00#8

/-- Row `LLC_BAD` (R201). -/
def execLlcBad (_pair : BitVec 16) (s : State) : Out := s.raise .llcBadSap s.ctx.off

end Sys2Proof.Machine
end

