-- ==== Sys2Proof/Machine/Tracker.lean ====
section
/-! DEFINITION. The TCP flow-state tracker (R400 to R430): finite maps, the flow key, the segment, the
per-flow step, and the rows of table `TCPCLASS`. -/

namespace Sys2Proof.Machine

/-! ## Finite maps: lists of pairs with strictly rising keys -/

/-- The value at a key. -/
def mapFind {κ ν : Type} [DecidableEq κ] : List (κ × ν) → κ → Option ν
  | [], _ => none
  | (x, v) :: rest, k => if x = k then some v else mapFind rest k

/-- Put a value at a key, in the order `lt`. -/
def mapInsert {κ ν : Type} [DecidableEq κ] (lt : κ → κ → Bool) :
    List (κ × ν) → κ → ν → List (κ × ν)
  | [], k, v => [(k, v)]
  | (x, w) :: rest, k, v =>
    if x = k then (k, v) :: rest
    else if lt k x then (k, v) :: (x, w) :: rest
    else (x, w) :: mapInsert lt rest k v

/-- Remove a key. -/
def mapErase {κ ν : Type} [DecidableEq κ] : List (κ × ν) → κ → List (κ × ν)
  | [], _ => []
  | (x, w) :: rest, k => if x = k then rest else (x, w) :: mapErase rest k

/-- The keys rise strictly in the order `lt`. -/
def mapSorted {κ ν : Type} (lt : κ → κ → Bool) : List (κ × ν) → Bool
  | [] => true
  | [_] => true
  | (x, _) :: (y, w) :: rest => lt x y && mapSorted lt ((y, w) :: rest)

/-! ## Endpoints and keys (R403) -/

/-- The order of byte strings (R403): unsigned bytes from the first on, a proper prefix is smaller. -/
def bytesLt : Bytes → Bytes → Bool
  | _, [] => false
  | [], _ :: _ => true
  | x :: xs, y :: ys => if x = y then bytesLt xs ys else decide (x.toNat < y.toNat)

/-- The order of endpoints (R403): by address, then by port. -/
def Endpoint.lt (a b : Endpoint) : Bool :=
  if a.addr = b.addr then decide (a.port.toNat < b.port.toNat) else bytesLt a.addr b.addr

/-- An order of flow keys, for the canonical form of the registry (assumption log, entry 15). -/
def FlowKey.lt (a b : FlowKey) : Bool :=
  if a.lo = b.lo then Endpoint.lt a.hi b.hi else Endpoint.lt a.lo b.lo

/-- `flowKey(a, b)` (R403). -/
def flowKey (a b : Endpoint) : FlowKey :=
  if Endpoint.lt b a then { lo := b, hi := a } else { lo := a, hi := b }

/-! ## Segments (R401, R402) -/

/-- Put together a segment (R402). -/
def makeSegment (time : Time) (src dst : Bytes) (ipHdrBytes : Nat) (t : TcpRec) : Segment :=
  { src := { addr := src, port := t.srcPort }
    dst := { addr := dst, port := t.dstPort }
    tcp := t
    time := time
    ipHdrBytes := ipHdrBytes
    tcpHdrBytes := t.headerLength
    payloadBytes := t.dataLength }

/-- `segment(f)` (R401, R402): TCP directly in IPv4, or in IPv6 when `TRACK_IPV6` is true. -/
def segmentOf (cfg : Config) (f : DecodedFrame) : Option Segment :=
  match f.payload.payload with
  | .ipv4 h (.tcp t) => some (makeSegment f.capturedAt h.src h.dst h.headerLength t)
  | .ipv6 h (.tcp t) =>
    if cfg.trackIpv6 then some (makeSegment f.capturedAt h.src h.dst 40 t) else none
  | _ => none

/-! ## Flows -/

/-- The counters of a new flow (R55). -/
def DirectionalCounters.zero : DirectionalCounters :=
  { isn := none, windowScale := none, ipBytes := 0, tcpBytes := 0, payloadBytes := 0,
    packets := [], acks := [], retrans := [] }

/-- `newFlow(k)` (R55). -/
def newFlow (k : FlowKey) : TcpFlow :=
  { key := k, state := .closed, fresh := true, src := none, dst := none, synTime := none,
    connectTime := none, closeTime := none, send := DirectionalCounters.zero,
    recv := DirectionalCounters.zero }

/-- `hasRoom(st)` (R426). -/
def hasRoom (cfg : Config) (registry : List (FlowKey × TcpFlow)) : Bool :=
  match cfg.flowCapacity with
  | none => true
  | some n => decide (registry.length < n)

/-- `record(C, s)` (R424). -/
def record (c : DirectionalCounters) (s : Segment) : DirectionalCounters :=
  { c with
    ipBytes := c.ipBytes + s.ipHdrBytes
    tcpBytes := c.tcpBytes + s.tcpHdrBytes
    payloadBytes := c.payloadBytes + s.payloadBytes }

/-- `fromInit(fl, s)` (R405). -/
def fromInit (fl : TcpFlow) (s : Segment) : Bool := fl.src == some s.src

/-- `fromResp(fl, s)` (R405). -/
def fromResp (fl : TcpFlow) (s : Segment) : Bool := fl.dst == some s.src

/-- The counters of a direction (R413). -/
def TcpFlow.counters (fl : TcpFlow) : Direction → DirectionalCounters
  | .send => fl.send
  | .recv => fl.recv

/-- Set the counters of a direction. -/
def TcpFlow.setCounters (fl : TcpFlow) (d : Direction) (c : DirectionalCounters) : TcpFlow :=
  match d with
  | .send => { fl with send := c }
  | .recv => { fl with recv := c }

/-- The other direction (R413). -/
def Direction.other : Direction → Direction
  | .send => .recv
  | .recv => .send

/-! ## The per-flow step (R405) -/

/-- What a per-flow rule returns (R405). -/
structure FlowStep where
  flow : TcpFlow
  sigs : List Signal
  ended : Bool
  deriving DecidableEq, Repr

/-- A change without a signal. -/
def silent (fl : TcpFlow) : FlowStep := { flow := fl, sigs := [], ended := false }

/-- No change and no signal (R412). -/
def ignore (fl : TcpFlow) : FlowStep := silent fl

/-- A signal without an argument. -/
def TcpFlow.signal (fl : TcpFlow) (code : SignalCode) : Signal :=
  { code := code, key := fl.key, arg := .none }

/-- Syn-retry (R406). -/
def synRetry (fl : TcpFlow) : FlowStep :=
  { flow := fl, sigs := [fl.signal .synRetry], ended := false }

/-- `CLOSED`, opening SYN (R407). -/
def openingSyn (fl : TcpFlow) (s : Segment) : FlowStep :=
  silent
    { fl with
      src := some s.src
      dst := some s.dst
      synTime := some s.time
      send := { record fl.send s with
                isn := some s.tcp.seqno, windowScale := s.tcp.options.windowScale }
      state := .synSent }

/-- `CLOSED`, missed handshake (R408). -/
def missedHandshake (fl : TcpFlow) (s : Segment) : FlowStep :=
  silent
    { fl with
      src := some s.src, dst := some s.dst, connectTime := some s.time, state := .estab }

/-- `CLOSED` (R407, R408). -/
def closedStep (c : Classes) (fl : TcpFlow) (s : Segment) : FlowStep :=
  if fl.fresh ∧ c.synNoAck then openingSyn fl s else missedHandshake fl s

/-- `SYN_SENT` (R409, R410). -/
def synSentStep (c : Classes) (fl : TcpFlow) (s : Segment) : FlowStep :=
  if fromResp fl s ∧ c.synAck then
    silent
      { fl with
        recv := { record fl.recv s with
                  isn := some s.tcp.seqno, windowScale := s.tcp.options.windowScale }
        state := .synRecv }
  else
    { flow := { fl with state := .closed }, sigs := [fl.signal .reset], ended := false }

/-- `SYN_RECV` (R411, R412). -/
def synRecvStep (c : Classes) (fl : TcpFlow) (s : Segment) : FlowStep :=
  if fromInit fl s ∧ c.ack then
    { flow := { fl with send := record fl.send s, connectTime := some s.time, state := .estab }
      sigs := [fl.signal .start]
      ended := false }
  else ignore fl

/-- The sequence boundary of a segment (R425). -/
def boundary (width : Nat) (s : Segment) : Nat :=
  (s.tcp.seqno.toNat + s.payloadBytes) % 2 ^ width

/-- `ESTAB`, data and retransmission (R415): the new counters of the direction and the signals. -/
def dataStep (width : Nat) (k : FlowKey) (d : Direction) (c : DirectionalCounters) (s : Segment) :
    DirectionalCounters × List Signal :=
  if s.payloadBytes = 0 then (c, [])
  else
    let b := boundary width s
    match mapFind c.packets b with
    | some _ =>
      ({ c with retrans := mapInsert Nat.blt c.retrans b ((mapFind c.retrans b).getD 0 + 1) },
       [{ code := .retransmit, key := k, arg := .boundary d b }])
    | none =>
      ({ c with packets := mapInsert Nat.blt c.packets b s.time
                retrans := mapInsert Nat.blt c.retrans b 0 },
       [{ code := (match d with | .send => .dataSend | .recv => .dataRecv), key := k,
          arg := .data s.tcp.data }])

/-- `ESTAB`, acknowledgement match (R416): the first acknowledgement of a boundary of the other
direction is timed. -/
def ackStep (other c : DirectionalCounters) (s : Segment) : DirectionalCounters :=
  if (mapFind other.packets s.tcp.ackno.toNat).isSome ∧ (mapFind c.acks s.tcp.ackno.toNat).isNone
  then { c with acks := mapInsert Nat.blt c.acks s.tcp.ackno.toNat s.time }
  else c

/-- `ESTAB`, FIN (R417). -/
def finState (d : Direction) : FlowState :=
  match d with
  | .send => .finWait
  | .recv => .closeWait

/-- `ESTAB`, one attributed segment (R414 to R417, in that order). -/
def attributedStep (width : Nat) (c : Classes) (d : Direction) (fl : TcpFlow) (s : Segment) :
    FlowStep :=
  let counted := record (fl.counters d) s
  let data := dataStep width fl.key d counted s
  let acked := ackStep (fl.counters d.other) data.1 s
  let fl' := fl.setCounters d acked
  { flow := if c.fin then { fl' with state := finState d } else fl'
    sigs := data.2
    ended := false }

/-- `ESTAB` (R413 to R418): `SEND` is chosen when the two endpoints are equal. -/
def estabStep (width : Nat) (c : Classes) (fl : TcpFlow) (s : Segment) : FlowStep :=
  if fromInit fl s then attributedStep width c .send fl s
  else if fromResp fl s then attributedStep width c .recv fl s
  else { flow := fl, sigs := [fl.signal .nonMatching], ended := false }

/-- `FIN_WAIT` (R419). -/
def finWaitStep (c : Classes) (fl : TcpFlow) (s : Segment) : FlowStep :=
  if fromResp fl s ∧ c.fin then silent { fl with state := .closing } else ignore fl

/-- `CLOSE_WAIT` (R420). -/
def closeWaitStep (c : Classes) (fl : TcpFlow) (s : Segment) : FlowStep :=
  if fromInit fl s ∧ c.fin then silent { fl with state := .lastAck } else ignore fl

/-- The end of a flow (R421, R422). -/
def endFlow (fl : TcpFlow) (s : Segment) : FlowStep :=
  { flow := { fl with closeTime := some s.time, state := .closed }
    sigs := [fl.signal .finished]
    ended := true }

/-- `LAST_ACK` (R421). -/
def lastAckStep (fl : TcpFlow) (s : Segment) : FlowStep :=
  if fromResp fl s then endFlow fl s else ignore fl

/-- `CLOSING` (R422). -/
def closingStep (fl : TcpFlow) (s : Segment) : FlowStep :=
  if fromInit fl s then endFlow fl s else ignore fl

/-- `step(fl, s)` (R405): syn-retry first, then the rule of the flow's state. -/
def flowStep (width : Nat) (c : Classes) (fl : TcpFlow) (s : Segment) : FlowStep :=
  if c.synNoAck ∧ ¬fl.fresh then synRetry fl
  else
    match fl.state with
    | .closed => closedStep c fl s
    | .synSent => synSentStep c fl s
    | .synRecv => synRecvStep c fl s
    | .estab => estabStep width c fl s
    | .finWait => finWaitStep c fl s
    | .closeWait => closeWaitStep c fl s
    | .lastAck => lastAckStep fl s
    | .closing => closingStep fl s

/-! ## `observe` (R400) -/

/-- The row of `TCPCLASS` that decides the step of a flow (R405): syn-retry tests SYN-without-ACK
first, and then each state's rule tests at most one row. -/
def classRow (fl : TcpFlow) (s : Segment) : Option ClassRow :=
  if (classesOf s.tcp.flags.word).synNoAck ∧ ¬fl.fresh then some .synNoAck
  else
    match fl.state with
    | .closed => some .synNoAck
    | .synSent => some .synAck
    | .synRecv => some .ack
    | .estab => some .fin
    | .finWait => some .fin
    | .closeWait => some .fin
    | .lastAck => none
    | .closing => none

/-- Return a signal list from an `observe` call (R400). -/
def State.observed1 (s : State) (out : List Signal) : State :=
  { s with mode := .idle, obs := none, observed := s.observed ++ [out] }

/-- `observe` up to the flow's step (R400 to R404, R426). -/
def beginObserve (s : State) (f : DecodedFrame) : State :=
  match segmentOf s.cfg f with
  | none => s.observed1 []
  | some seg =>
    let k := flowKey seg.src seg.dst
    match mapFind s.registry k with
    | some fl =>
      { s with
        mode := .observe
        obs := some { seg := seg, key := k, flow := fl, out := [], row := classRow fl seg } }
    | none =>
      if hasRoom s.cfg s.registry then
        let fl := newFlow k
        { s with
          mode := .observe
          obs := some { seg := seg, key := k, flow := fl,
                        out := [{ code := .session, key := k, arg := .none }],
                        row := classRow fl seg } }
      else s.observed1 [{ code := .registryFull, key := k, arg := .none }]

/-- The end of `observe` (R400, R423, R428): the flow is stored, no longer fresh, or removed when it
ended, and the signal list is returned. -/
def State.commit (s : State) (o : Observation) (r : FlowStep) : State :=
  ({ s with
      registry :=
        if r.ended then mapErase s.registry o.key
        else mapInsert FlowKey.lt s.registry o.key { r.flow with fresh := false } }).observed1
    (o.out ++ r.sigs)

/-- Apply the step of the flow under observation (R405), with the four predicates as tested. -/
def runSegment (c : Classes) (s : State) : Out :=
  match s.obs with
  | none => .fault .noObservation
  | some o => .next (s.commit o (flowStep s.cfg.seqWidth c o.flow o.seg))

/-! ## Table TCPCLASS

A row runs when it is the row that the flow's rule tests and it matches the segment's flags: then its
predicate is true, and the others are tested on their own (R146). -/

/-- Row `SEG_SYN_NOACK`: syn-retry (R406) or the opening SYN (R407). -/
def execSegSynNoAck (flags : BitVec 9) (s : State) : Out :=
  runSegment { classesOf flags with synNoAck := true } s

/-- Row `SEG_SYN_ACK`: the handshake reply (R409), or a reset (R410). -/
def execSegSynAck (flags : BitVec 9) (s : State) : Out :=
  runSegment { classesOf flags with synAck := true } s

/-- Row `SEG_ACK`: the handshake completion (R411). -/
def execSegAck (flags : BitVec 9) (s : State) : Out :=
  runSegment { classesOf flags with ack := true } s

/-- Row `SEG_FIN`: the FIN transitions (R417, R419, R420). -/
def execSegFin (flags : BitVec 9) (s : State) : Out :=
  runSegment { classesOf flags with fin := true } s

/-- The step of a flow whose rule tests no row, or whose row does not match (R405). -/
def observeOther (s : State) : Out :=
  match s.obs with
  | none => .fault .noObservation
  | some o => runSegment (classesOf o.seg.tcp.flags.word) s

end Sys2Proof.Machine
end

