-- ==== Sys2Proof/Machine/Fetch.lean ====
section
/-! DEFINITION. What a step fetches: the row that `SEL` selects, the kind byte at the head of the TCP
option loop, the first byte of a DNS name step, or the row of `TCPCLASS` that a flow tests; and the
work of the steps that run no row: taking a call, the loop heads, the delivery of a frame. -/

namespace Sys2Proof.Machine

/-- A step fetches an instruction to run in a state, or is complete without one. -/
inductive Fetched where
  | run (i : Instr) (s : State)
  | done (o : Out)

/-- The row that `SEL` selects (R133). -/
def fetchRow (s : State) : Fetched :=
  match decode s.cfg s.ctx.sel with
  | .ok i => .run i s
  | .error _ => .done (.refused (.noRow s.ctx.sel))

/-- The head of the option loop (R294): the kind byte at the cursor, or the end of the area. -/
def fetchOption (s : State) : Fetched :=
  if s.work.cur < s.ctx.optend then
    if s.readable s.work.cur 1 then fetchRow (s.look (.tcpopt (s.u8 s.work.cur)))
    else .done (s.raise .truncated s.work.cur)
  else .done (tcpFinish s)

/-- The head of the name loop (R355): the first byte of a name step. -/
def fetchLabel (s : State) : Fetched :=
  if s.dnsReadable s.work.dns.cur 1 then fetchRow (s.look (.dnslabel (s.u8 s.work.dns.cur)))
  else .done (s.raise .truncated s.work.dns.cur)

/-- The row of `TCPCLASS` that the flow under observation tests (R405), when it matches (R146). -/
def fetchClass (s : State) : Fetched :=
  match s.obs with
  | none => .done (observeOther s)
  | some o =>
    match o.row with
    | none => .done (observeOther s)
    | some r =>
      match decodeClass r o.seg.tcp.flags.word with
      | .ok i => .run i s
      | .error _ => .done (observeOther s)

/-- `decode(linkType, h, buf)` up to the link-type row (R170 to R173): reset the context, parse the
header, check the buffer contract (R172), and set `B_len` (R80). -/
def beginDecode (s : State) (linkType : BitVec 3) (header : Memory) (buf : Buffer) : Out :=
  let hdr := parseHeader header
  let s := s.beginRequest linkType header hdr buf
  if buf.len < hdr.capturedLength.toNat then s.raise .bufferShort 0
  else .next { s with req := { s.req with blen := hdr.capturedLength.toNat } }

/-- Take the host's next call (R502); with none, the block stays idle with its state held (R473). -/
def takeCall (s : State) : Out :=
  match s.calls with
  | [] => .next s
  | .decode linkType header buf :: rest => beginDecode { s with calls := rest } linkType header buf
  | .observe f :: rest => .next (beginObserve { s with calls := rest } f)

/-- What the next step does (R177). -/
def fetch (s : State) : Fetched :=
  match s.mode with
  | .idle => .done (takeCall s)
  | .row => fetchRow s
  | .options => fetchOption s
  | .name => fetchLabel s
  | .afterName => .done (afterName s)
  | .sections => .done (sectionsHead s)
  | .deliverNet p => .done (deliverNet s p)
  | .deliverProto p => .done (deliverProto s p)
  | .observe => fetchClass s

/-! ## Placing one instruction

`placeSelector` puts a machine right before the step that runs the row of a selector: what a host's
call and the steps before it would have left, with every byte and operand that the selector does not
fix at zero (assumption log, entry 2). -/

/-- A buffer of 128 zero bytes but for one byte string. -/
def placedBuffer (a : Nat) (l : Bytes) : Buffer := { cells := Memory.place [] a l, len := 128 }

/-- A request under way on a buffer of 128 bytes. -/
def State.placedRequest (s : State) (linkType : BitVec 3) (buf : Buffer) : State :=
  { s.beginRequest linkType [(8, 128#8), (12, 128#8)] (parseHeader [(8, 128#8), (12, 128#8)]) buf with
    req := { linkType := linkType, header := [(8, 128#8), (12, 128#8)],
             hdr := parseHeader [(8, 128#8), (12, 128#8)], buf := buf, blen := 128 } }

/-- An IPv4 header of 20 bytes that carries a protocol number in a packet of 128 bytes, every other
field zero. -/
def placedIpv4 (p : Byte) : Ipv4Hdr :=
  { version := 4#4, headerLength := 20, dsfield := 0#8, totalLength := 128#16, identification := 0#16,
    flags := { reserved := false, doNotFragment := false, moreFragments := false },
    fragmentOffset := 0, ttl := 0#8, protocol := p, checksum := 0#16, checksumStatus := .unchecked,
    src := [0#8, 0#8, 0#8, 0#8], dst := [0#8, 0#8, 0#8, 0#8] }

/-- A raw IPv4 request that has decoded its IPv4 header and selected a protocol (R174, R236). -/
def State.placedProto (s : State) (p : Byte) (buf : Buffer) (rem : Int) : State :=
  (((s.placedRequest 2#3 buf).entered 0).pushNetIpv4 (placedIpv4 p)).dispatchProto p 20 rem

/-- The flow state in which a row of `TCPCLASS` is tested (R405). -/
def placedFlowState : ClassRow → FlowState
  | .synNoAck => .synSent
  | .synAck => .synSent
  | .ack => .synRecv
  | .fin => .estab

/-- An `observe` call under way on a flow that tests a row, for a segment with the given flags from
the endpoint whose segment the row's transition names. -/
def State.placedSegment (s : State) (r : ClassRow) (flags : BitVec 9) : State :=
  let a : Endpoint := { addr := [10#8, 0#8, 0#8, 1#8], port := 1#16 }
  let b : Endpoint := { addr := [10#8, 0#8, 0#8, 2#8], port := 2#16 }
  let from' := match r with | .synAck => b | _ => a
  let to' := match r with | .synAck => a | _ => b
  let k := flowKey a b
  let fl := { newFlow k with
              fresh := false, state := placedFlowState r, src := some a, dst := some b }
  let t := { TcpRec.blank with
             flags := TcpFlags.ofWord flags, headerLength := 20, srcPort := from'.port,
             dstPort := to'.port }
  { s with
    mode := .observe
    registry := mapInsert FlowKey.lt s.registry k fl
    obs := some { seg := makeSegment { sec := 0#32, usec := 0#32 } from'.addr to'.addr 20 t
                  key := k, flow := fl, out := [], row := some r } }

/-- The machine right before the step that runs the row of a selector. -/
def State.placeSelector (s : State) (sel : Selector) : State :=
  match sel with
  | .link c => s.placedRequest c (placedBuffer 0 [])
  | .ethertype t =>
    (((s.placedRequest 0#3 (placedBuffer 12 [t.extractLsb' 8 8, t.extractLsb' 0 8])).entered 0).setWork
      { Work.empty with
        link := .ethernet { dst := List.replicate 6 0#8, src := List.replicate 6 0#8, vlan := none,
                            ethertype := t } }).dispatchEther t 14
  | .nullfam f =>
    (((s.placedRequest 1#3 (placedBuffer 0 [f])).entered 0).setWork
      { Work.empty with
        link := .null { familyField := [f, 0#8, 0#8, 0#8], family := f } }).jump (.nullfam f) 4
  | .llcsap p =>
    ((s.placedRequest 4#3 (placedBuffer 0 [p.extractLsb' 8 8, p.extractLsb' 0 8])).entered 0).jump
      (.llcsap p) 8
  | .ipproto p => s.placedProto p (placedBuffer 9 [p]) (if p = 59#8 then 0 else 108)
  | .tcpopt k =>
    let s := (s.placedProto 6#8 (placedBuffer 40 [k]) 60).entered 20
    ((s.setCtx { s.ctx with optend := 80 }).setWork { s.work with cur := 40 }).setMode .options
  | .sacklen l =>
    let s := (s.placedProto 6#8 (placedBuffer 40 [5#8, l]) 60).entered 20
    ((s.setCtx { s.ctx with optend := 80 }).setWork { s.work with cur := 40 }).look (.sacklen l)
  | .dnslabel b =>
    let s := (s.placedProto 17#8 (placedBuffer 40 [b]) 108).entered 20
    (s.setCtx { s.ctx with dnsbase := 28, dnsend := 128 }).startName 40 .question
  | .dnsrr c =>
    let s := (s.placedProto 17#8 (placedBuffer 0 []) 108).entered 20
    ((s.setCtx { s.ctx with dnsbase := 28, dnsend := 128 }).setDns
      { s.work.dns with
        rdStart := 48
        rr := { RR.blank with rtype := c.extractLsb' 16 16, rclass := c.extractLsb' 0 16 } }).look
      (.dnsrr c)
  | .arpop o =>
    let s := (s.placedRequest 0#3 (placedBuffer 20 [o.extractLsb' 8 8, o.extractLsb' 0 8])).entered 14
    (s.setWork { s.work with arp := { ArpRec.blank with operation := o } }).look (.arpop o)
  | .igmptype t =>
    let s := (s.placedProto 2#8 (placedBuffer 20 [t]) 8).entered 20
    (s.setWork { s.work with igmp := { IgmpRec.blank with igmpType := t } }).look (.igmptype t)
  | .udpport c =>
    let s := (s.placedProto 17#8 (placedBuffer 0 []) 108).entered 20
    (s.setWork
      { s.work with
        udp := { UdpRec.blank with
                 srcPort := c.extractLsb' 16 16, dstPort := c.extractLsb' 0 16,
                 length := 108#16 } }).look (.udpport c)
  | .tcpclass r f => s.placedSegment r f

end Sys2Proof.Machine
end

