-- ==== Sys2Proof/Machine/Dispatch.lean ====
section
/-! DEFINITION. The dispatch of instructions to their meanings, one arm per row of the opcode table. -/

namespace Sys2Proof.Machine

def exec (i : Instr) (s : State) : Host.Outcome State Fault Refusal :=
  match i with
  | .ltEthernet => Sys2Proof.Machine.execLtEthernet s
  | .ltNull => Sys2Proof.Machine.execLtNull s
  | .ltRawIpv4 => Sys2Proof.Machine.execLtRawIpv4 s
  | .ltLinuxSll => Sys2Proof.Machine.execLtLinuxSll s
  | .ltLlc => Sys2Proof.Machine.execLtLlc s
  | .ltOther code => Sys2Proof.Machine.execLtOther code s
  | .etIpv4 => Sys2Proof.Machine.execEtIpv4 s
  | .etArp => Sys2Proof.Machine.execEtArp s
  | .etIpv6 => Sys2Proof.Machine.execEtIpv6 s
  | .etLenLo code => Sys2Proof.Machine.execEtLenLo code s
  | .etLenHi code => Sys2Proof.Machine.execEtLenHi code s
  | .etUnknown code => Sys2Proof.Machine.execEtUnknown code s
  | .nfInet => Sys2Proof.Machine.execNfInet s
  | .nfInet6_24 => Sys2Proof.Machine.execNfInet6v24 s
  | .nfInet6_28 => Sys2Proof.Machine.execNfInet6v28 s
  | .nfInet6_30 => Sys2Proof.Machine.execNfInet6v30 s
  | .nfOther family => Sys2Proof.Machine.execNfOther family s
  | .llcSnap => Sys2Proof.Machine.execLlcSnap s
  | .llcBasic => Sys2Proof.Machine.execLlcBasic s
  | .llcBad pair => Sys2Proof.Machine.execLlcBad pair s
  | .pExt0 => Sys2Proof.Machine.execPExt0 s
  | .pIcmp => Sys2Proof.Machine.execPIcmp s
  | .pIgmp => Sys2Proof.Machine.execPIgmp s
  | .pIpv4 => Sys2Proof.Machine.execPIpv4 s
  | .pTcp => Sys2Proof.Machine.execPTcp s
  | .pUdp => Sys2Proof.Machine.execPUdp s
  | .pIpv6 => Sys2Proof.Machine.execPIpv6 s
  | .pExt43 => Sys2Proof.Machine.execPExt43 s
  | .pExt51 => Sys2Proof.Machine.execPExt51 s
  | .pNoNext => Sys2Proof.Machine.execPNoNext s
  | .pExt60 => Sys2Proof.Machine.execPExt60 s
  | .pExt135 => Sys2Proof.Machine.execPExt135 s
  | .pExt139 => Sys2Proof.Machine.execPExt139 s
  | .pExt140 => Sys2Proof.Machine.execPExt140 s
  | .pUnknown protocol => Sys2Proof.Machine.execPUnknown protocol s
  | .optEol => Sys2Proof.Machine.execOptEol s
  | .optNop => Sys2Proof.Machine.execOptNop s
  | .optMss => Sys2Proof.Machine.execOptMss s
  | .optWscale => Sys2Proof.Machine.execOptWscale s
  | .optSackOk => Sys2Proof.Machine.execOptSackOk s
  | .optSack => Sys2Proof.Machine.execOptSack s
  | .optTs => Sys2Proof.Machine.execOptTs s
  | .optExp254 => Sys2Proof.Machine.execOptExp254 s
  | .optExp255 => Sys2Proof.Machine.execOptExp255 s
  | .optBad kind => Sys2Proof.Machine.execOptBad kind s
  | .sack1 => Sys2Proof.Machine.execSack1 s
  | .sack2 => Sys2Proof.Machine.execSack2 s
  | .sack3 => Sys2Proof.Machine.execSack3 s
  | .sack4 => Sys2Proof.Machine.execSack4 s
  | .sackBad length => Sys2Proof.Machine.execSackBad length s
  | .dnsTerm => Sys2Proof.Machine.execDnsTerm s
  | .dnsLabel length => Sys2Proof.Machine.execDnsLabel length s
  | .dnsPtr high => Sys2Proof.Machine.execDnsPtr high s
  | .dnsRsv01 low => Sys2Proof.Machine.execDnsRsv01 low s
  | .dnsRsv10 low => Sys2Proof.Machine.execDnsRsv10 low s
  | .rrAIn => Sys2Proof.Machine.execRrAIn s
  | .rrNsIn => Sys2Proof.Machine.execRrNsIn s
  | .rrAaaaIn => Sys2Proof.Machine.execRrAaaaIn s
  | .rrOther code => Sys2Proof.Machine.execRrOther code s
  | .arpRequest => Sys2Proof.Machine.execArpRequest s
  | .arpReply => Sys2Proof.Machine.execArpReply s
  | .arpUnknown operation => Sys2Proof.Machine.execArpUnknown operation s
  | .igmpQuery => Sys2Proof.Machine.execIgmpQuery s
  | .igmpV1Report => Sys2Proof.Machine.execIgmpV1Report s
  | .igmpV2Report => Sys2Proof.Machine.execIgmpV2Report s
  | .igmpLeave => Sys2Proof.Machine.execIgmpLeave s
  | .igmpV3Report => Sys2Proof.Machine.execIgmpV3Report s
  | .igmpOther code => Sys2Proof.Machine.execIgmpOther code s
  | .udpDnsSrc dstPort => Sys2Proof.Machine.execUdpDnsSrc dstPort s
  | .udpDnsDst srcPort => Sys2Proof.Machine.execUdpDnsDst srcPort s
  | .udpPlain srcPort dstPort => Sys2Proof.Machine.execUdpPlain srcPort dstPort s
  | .segSynNoAck flags => Sys2Proof.Machine.execSegSynNoAck flags s
  | .segSynAck flags => Sys2Proof.Machine.execSegSynAck flags s
  | .segAck flags => Sys2Proof.Machine.execSegAck flags s
  | .segFin flags => Sys2Proof.Machine.execSegFin flags s

end Sys2Proof.Machine
end

