-- ==== Sys2Proof/Machine/Step.lean ====
section
/-! DEFINITION. One step of the block (R177), and the placing of one instruction before a step. -/

namespace Sys2Proof.Machine

/-- One step: run the instruction that is fetched, or do the work of a step without one. -/
def step (s : State) : Host.Outcome State Fault Refusal :=
  match fetch s with
  | .run i s' => exec i s'
  | .done o => o

/-- The machine right before the step that runs the instruction of a word of the opcode table. -/
def State.withFetchWord (s : State) (nbits w : Nat) : State :=
  match tableWordSelector nbits w with
  | none => s
  | some sel => s.placeSelector sel

end Sys2Proof.Machine
end

