-- ==== Sys2Proof/Safety.lean ====
section
/-! DEFINITION. What counts as a good state of the block, in the terms the statements use: canonical
memories, a mode that fits the records under way, a context inside its bounds, a registry of well-kept
flows, and records of the sizes that the spec gives. Each is a test that can be run on a state. -/

namespace Sys2Proof.Machine

/-! ## Memory -/

/-- A queued call carries canonical memories; a frame header has 16 bytes (R81). -/
def Call.wf : Call → Bool
  | .decode _ header buf => header.wf && header.below 16 && buf.wf
  | .observe _ => true

/-- Every memory of the state is canonical. -/
def State.memoryCanonical (s : State) : Bool :=
  s.req.header.wf && s.req.header.below 16 && s.req.buf.wf && s.calls.all Call.wf

/-! ## The parser -/

/-- A request is under way. -/
def State.parsing (s : State) : Bool :=
  match s.mode with
  | .idle => false
  | .observe => false
  | _ => true

/-- The tables that are consulted under an IPv4 or IPv6 header only (R39, R40). -/
def tableUnderNet : Table → Bool
  | .ipproto => true
  | .tcpopt => true
  | .sacklen => true
  | .dnslabel => true
  | .dnsrr => true
  | .igmptype => true
  | .udpport => true
  | _ => false

/-- The mode fits what is under way: an idle block holds no partly built record (R464, R466), and a
protocol payload always has a network header under it (R39, R40). -/
def State.modeOk (s : State) : Bool :=
  match s.mode with
  | .idle => s.work == Work.empty && s.obs.isNone
  | .observe => s.work == Work.empty && s.obs.isSome
  | .row =>
    s.ctx.sel.table != .tcpclass && (!tableUnderNet s.ctx.sel.table || s.work.net.isSome) && s.obs.isNone
  | .deliverNet _ => s.obs.isNone
  | .options => s.work.net.isSome && s.obs.isNone
  | .name => s.work.net.isSome && s.obs.isNone
  | .afterName => s.work.net.isSome && s.obs.isNone
  | .sections => s.work.net.isSome && s.obs.isNone
  | .deliverProto _ => s.work.net.isSome && s.obs.isNone

/-- The context stays inside its bounds: `B_len` inside the host's buffer (R80), `STATUS` and `ERR`
together (R34, R464), and during a request the depth limit (R474), the hop limit (R360), and the DNS
window inside the buffer (R367). -/
def State.contextOk (s : State) : Bool :=
  decide (s.req.blen ≤ s.req.buf.len)
    && ((s.ctx.status == .fatal) == s.ctx.err.isSome)
    && (!s.parsing
      || (s.ctx.status == .running && !Config.tooDeep s.cfg s.ctx.depth
        && decide (s.ctx.hops ≤ s.cfg.dnsMaxPtrHops) && decide (s.ctx.dnsend ≤ s.req.blen)))

/-! ## The tracker -/

/-- The maps of a direction have rising keys, and a retransmission count stands at exactly the
boundaries that were seen (R50, R415). -/
def DirectionalCounters.mapsOk (c : DirectionalCounters) : Bool :=
  mapSorted Nat.blt c.packets && mapSorted Nat.blt c.acks && mapSorted Nat.blt c.retrans
    && c.packets.map Prod.fst == c.retrans.map Prod.fst

/-- Both endpoints of a flow are known and are the two of its key (R407, R408). -/
def TcpFlow.endpointsOk (fl : TcpFlow) : Bool :=
  match fl.src, fl.dst with
  | some a, some b => flowKey a b == fl.key
  | _, _ => false

/-- An entry of the registry: the flow stands at its own key, is no longer fresh (R428), and knows its
endpoints. -/
def entryOk (e : FlowKey × TcpFlow) : Bool :=
  e.2.key == e.1 && !e.2.fresh && e.2.endpointsOk && e.2.send.mapsOk && e.2.recv.mapsOk

/-- The registry holds at most `FLOW_CAPACITY` flows (R426). -/
def capacityOk (cfg : Config) (registry : List (FlowKey × TcpFlow)) : Bool :=
  match cfg.flowCapacity with
  | none => true
  | some n => decide (registry.length ≤ n)

/-- The registry is a map of good entries within its capacity. -/
def State.registryOk (s : State) : Bool :=
  mapSorted FlowKey.lt s.registry && s.registry.all entryOk && capacityOk s.cfg s.registry

/-- An `observe` call in progress works on the flow of its segment's key, as found or as created
(R400). -/
def State.observationOk (s : State) : Bool :=
  match s.obs with
  | none => true
  | some o =>
    o.key == flowKey o.seg.src o.seg.dst && o.row == classRow o.flow o.seg
      && (match mapFind s.registry o.key with
          | some fl => o.flow == fl && o.out == []
          | none => o.flow == newFlow o.key && hasRoom s.cfg s.registry
                      && o.out == [{ code := .session, key := o.key, arg := .none }])

/-- A good state of the block. -/
def State.safe (s : State) : Bool :=
  s.memoryCanonical && s.modeOk && s.contextOk && s.registryOk && s.observationOk

/-! ## Records of the sizes that the spec gives -/

/-- Link-layer addresses have their sizes (R45, R38). -/
def LinkHdr.sized : LinkHdr → Bool
  | .ethernet h => h.dst.length == 6 && h.src.length == 6
  | .llc _ => true
  | .linuxCooked h => h.address.length == min h.addressLen.toNat 8
  | .null h => h.familyField.length == 4
  | .raw => true

/-- IPv4 addresses have 4 bytes, the header 20 to 60, and it fits in the total length (R45, R230). -/
def Ipv4Hdr.sized (h : Ipv4Hdr) : Bool :=
  h.src.length == 4 && h.dst.length == 4 && decide (20 ≤ h.headerLength)
    && decide (h.headerLength ≤ 60) && decide (h.headerLength ≤ h.totalLength.toNat)

/-- IPv6 addresses have 16 bytes (R45). -/
def Ipv6Hdr.sized (h : Ipv6Hdr) : Bool := h.src.length == 16 && h.dst.length == 16

/-- The length of an extension header is that of its length field (R119). -/
def ExtHdr.sized (h : ExtHdr) : Bool := h.headerLength == (h.lengthField.toNat + 1) * 8

/-- ARP addresses have 6 and 4 bytes, as their length bytes say (R248). -/
def ArpRec.sized (r : ArpRec) : Bool :=
  r.senderHw.length == 6 && r.senderProto.length == 4 && r.targetHw.length == 6
    && r.targetProto.length == 4 && r.hlen == 6#8 && r.plen == 4#8

/-- A DNS label has 1 to 63 bytes (R43). -/
def labelSized (l : Label) : Bool := decide (1 ≤ l.length) && decide (l.length ≤ 63)

/-- The labels of a name are sized (R43). -/
def nameSized (n : DnsName) : Bool := n.all labelSized

/-- Record data is sized (R43, R45). -/
def RData.sized : RData → Bool
  | .a address => address.length == 4
  | .ns name => nameSized name
  | .aaaa address => address.length == 16
  | .unresolved => true

/-- A resource record is sized. -/
def RR.sized (r : RR) : Bool := nameSized r.name && r.rdata.sized

/-- A decoded section passes a test on each of its items; a malformed one has none (R43). -/
def Section.sized {α : Type} (test : α → Bool) : Section α → Bool
  | .decoded items => items.all test
  | .malformed _ _ => true

/-- A DNS message is sized. -/
def DnsMsg.sized (m : DnsMsg) : Bool :=
  m.questions.sized (fun q => nameSized q.name) && m.answers.sized RR.sized
    && m.authorities.sized RR.sized && m.additionals.sized RR.sized

/-- A TCP header has 20 to 60 bytes (R292), a SACK list 1 to 4 pairs (R41). -/
def TcpRec.sized (t : TcpRec) : Bool :=
  decide (20 ≤ t.headerLength) && decide (t.headerLength ≤ 60)
    && (match t.options.sack with
        | none => true
        | some l => decide (1 ≤ l.length) && decide (l.length ≤ 4))

/-- A protocol payload is sized, whatever it nests. -/
def ProtoPayload.sized : ProtoPayload → Bool
  | .icmp _ => true
  | .igmp r => r.group.length == 4
  | .ipv4 h p => h.sized && p.sized
  | .tcp r => r.sized
  | .udp r => match r.dns with
    | none => true
    | some m => m.sized
  | .ipv6 h p => h.sized && p.sized
  | .noNext => true
  | .headerExtension h p => h.sized && p.sized

/-- A network payload is sized. -/
def NetPayload.sized : NetPayload → Bool
  | .ipv4 h p => h.sized && p.sized
  | .ipv6 h p => h.sized && p.sized
  | .arp r => r.sized
  | .unknown _ => true

/-- A response carries a sized frame, or none (R36). -/
def Response.sized : Response → Bool
  | .ok f _ => f.payload.hdr.sized && f.payload.payload.sized
  | .err _ _ _ => true

/-- An outermost header that awaits its payload is sized. -/
def NetHdr.sized : NetHdr → Bool
  | .ipv4 h => h.sized
  | .ipv6 h => h.sized

/-- A nested header that awaits its payload is sized. -/
def ProtoHdr.sized : ProtoHdr → Bool
  | .ipv4 h => h.sized
  | .ipv6 h => h.sized
  | .ext h => h.sized

/-- The TCP record is under way: at the head of the option loop, or at a row of it. -/
def State.inOptions (s : State) : Bool :=
  match s.mode with
  | .options => true
  | .row => s.ctx.sel.table == .tcpopt || s.ctx.sel.table == .sacklen
  | _ => false

/-- The partly built records are sized, each where it is under way. -/
def Work.sized (w : Work) : Bool :=
  w.link.sized && w.net.all NetHdr.sized && w.inner.all ProtoHdr.sized && nameSized w.dns.labels
    && w.dns.questions.all (fun q => nameSized q.name) && w.dns.records.all RR.sized
    && w.dns.rr.sized && w.dns.msg.sized

/-- Every record of the state, built or partly built, is sized. -/
def State.recordsSized (s : State) : Bool :=
  s.responses.all Response.sized && s.work.sized && (!s.inOptions || s.work.tcp.sized)
    && (match s.mode with
        | .row => (s.ctx.sel.table != .arpop || s.work.arp.sized)
                    && (s.ctx.sel.table != .igmptype || s.work.igmp.group.length == 4)
        | .deliverNet p => p.sized
        | .deliverProto p => p.sized
        | _ => true)

/-! ## Comparing steps -/

/-- Apply a function to the next state of an outcome. -/
def mapNext (f : State → State) : Out → Out
  | .next s => .next (f s)
  | .fault r => .fault r
  | .refused r => .refused r

/-- The same state with another tracker behind it: the two agents share no state (R471). -/
def State.withTracker (s : State) (registry : List (FlowKey × TcpFlow)) (obs : Option Observation)
    (observed : List (List Signal)) : State :=
  { s with registry := registry, obs := obs, observed := observed }

/-- The same state with other bytes in the host's buffer. -/
def State.withCells (s : State) (m : Memory) : State :=
  { s with req := { s.req with buf := { s.req.buf with cells := m } } }

/-- The same state with other earlier responses: the parser keeps nothing from one request to the
next (R30). -/
def State.withResponses (s : State) (l : List Response) : State := { s with responses := l }

/-- An instruction of the parser: every row but those of `TCPCLASS`, which are the tracker's (R146). -/
def isParserRow : Instr → Bool
  | .segSynNoAck _ => false
  | .segSynAck _ => false
  | .segAck _ => false
  | .segFin _ => false
  | _ => true

/-! ## Header decoders

The rows that begin a header decoder (R176), where the header starts, and the fields that the decoder
reads in its order (R463), as offset and size. -/

/-- The row begins a header decoder, so it calls `enter()` (R176). -/
def isHeaderRow : Instr → Bool
  | .ltEthernet | .ltNull | .ltRawIpv4 | .ltLinuxSll | .ltLlc => true
  | .etIpv4 | .etArp | .etIpv6 | .nfInet | .nfInet6_24 | .nfInet6_28 | .nfInet6_30 => true
  | .pExt0 | .pIcmp | .pIgmp | .pIpv4 | .pTcp | .pUdp | .pIpv6 | .pExt43 | .pExt51 => true
  | .pNoNext | .pExt60 | .pExt135 | .pExt139 | .pExt140 => true
  | _ => false

/-- Where the header of a row starts: the link-layer header at 0 (R91), every later one where the
decoder before it ended (R32). -/
def headerStart (i : Instr) (s : State) : Nat :=
  match i with
  | .ltEthernet | .ltNull | .ltRawIpv4 | .ltLinuxSll | .ltLlc => 0
  | _ => s.work.next

/-- The fields of an IPv4 header, in order (R230). -/
def ipv4Fields : List (Nat × Nat) :=
  [(0, 1), (1, 1), (2, 2), (4, 2), (6, 2), (8, 1), (9, 1), (10, 2), (12, 4), (16, 4)]

/-- The fields of an IPv6 header, in order (R234). -/
def ipv6Fields : List (Nat × Nat) := [(0, 4), (4, 2), (6, 1), (7, 1), (8, 16), (24, 16)]

/-- The fields that the decoder of a row reads whatever they hold, in order; for LLC, those before the
SAP look-up (R198). -/
def headerFields : Instr → List (Nat × Nat)
  | .ltEthernet => [(0, 6), (6, 6), (12, 2)]
  | .ltNull => [(0, 4)]
  | .ltLinuxSll => [(0, 2), (2, 2), (4, 2), (6, 8), (14, 2)]
  | .ltLlc => [(0, 1), (1, 1)]
  | .ltRawIpv4 | .etIpv4 | .nfInet | .pIpv4 => ipv4Fields
  | .etIpv6 | .nfInet6_24 | .nfInet6_28 | .nfInet6_30 | .pIpv6 => ipv6Fields
  | .etArp => [(0, 2), (2, 2), (4, 1), (5, 1), (6, 2), (8, 6), (14, 4), (18, 6), (24, 4)]
  | .pExt0 | .pExt43 | .pExt51 | .pExt60 | .pExt135 | .pExt139 | .pExt140 => [(0, 1), (1, 1)]
  | .pTcp => [(0, 2), (2, 2), (4, 4), (8, 4), (12, 1), (13, 1), (14, 2), (16, 2), (18, 2)]
  | .pUdp => [(0, 2), (2, 2), (4, 2), (6, 2)]
  | .pIcmp => [(0, 1), (1, 1), (2, 2)]
  | .pIgmp => [(0, 1), (1, 1), (2, 2), (4, 4)]
  | _ => []

/-- The check that stands between two fields of a header, and the offset of the last field that is read
before it: the IHL (R230), the ARP lengths (R248), the TCP data offset (R290). -/
def headerCheck (i : Instr) (s : State) (o : Nat) : Nat × Bool :=
  match i with
  | .ltRawIpv4 | .etIpv4 | .nfInet | .pIpv4 => (0, decide (5 ≤ ((s.u8 o).extractLsb' 0 4).toNat))
  | .etArp => (6, s.u8 (o + 4) == 6#8 && s.u8 (o + 5) == 4#8)
  | .pTcp => (13, decide (5 ≤ ((s.u8 (o + 12)).extractLsb' 4 4).toNat))
  | _ => (0, true)

end Sys2Proof.Machine
end

