-- ==== Sys2Proof/Certificates/Slice0/Obligations.lean ====
section
/-! DEFINITION. The statements for the provers. Each docstring says which rules of the spec it
formalises; OBLIGATIONS.json lists them. A result statement gives the whole next state, so whatever it
does not mention is unchanged: every other register, every byte of every memory, the tracker. -/

open Sys2Proof Sys2Proof.Machine

/-! ## Decoding and stepping -/

/-- A step runs the row that is selected: by `SEL`, by the kind byte at the cursor of the option loop
(R294), by the first byte of a name step (R355), or by the flags of the segment under observation when
the flow's rule tests a row that they match (R405). Only the loop heads write `SEL` before the row. The
modes are the model's form of the step view that R177 permits (assumption log, entries 4 and 11). -/
def Obligations.StepRunsDecodedRow : Prop :=
  ∀ (s : State) (i : Instr),
    (s.mode = .row → decode s.cfg s.ctx.sel = .ok i → step s = exec i s) ∧
    (s.mode = .options → s.work.cur < s.ctx.optend → s.readable s.work.cur 1 = true →
      decode s.cfg (.tcpopt (s.u8 s.work.cur)) = .ok i →
      step s = exec i
        { s with mode := .row, ctx := { s.ctx with sel := .tcpopt (s.u8 s.work.cur) } }) ∧
    (s.mode = .name → s.dnsReadable s.work.dns.cur 1 = true →
      decode s.cfg (.dnslabel (s.u8 s.work.dns.cur)) = .ok i →
      step s = exec i
        { s with mode := .row, ctx := { s.ctx with sel := .dnslabel (s.u8 s.work.dns.cur) } }) ∧
    (s.mode = .observe → ∀ (o : Observation) (r : ClassRow), s.obs = some o → o.row = some r →
      decode s.cfg (.tcpclass r o.seg.tcp.flags.word) = .ok i → step s = exec i s)

/-- A few codes, written out from the tables, decode to their rows (R134 to R146). -/
def Obligations.DecodedCodes : Prop :=
  decode Config.standard (.link 0b010#3) = .ok .ltRawIpv4 ∧
  decode Config.standard (.ethertype 0x86DD#16) = .ok .etIpv6 ∧
  decode Config.standard (.ethertype 0x05DC#16) = .ok (.etLenHi 0x05DC#16) ∧
  decode Config.standard (.ethertype 0x88CC#16) = .ok (.etUnknown 0x88CC#16) ∧
  decode Config.standard (.nullfam 0x1E#8) = .ok .nfInet6_30 ∧
  decode Config.standard (.llcsap 0xAA00#16) = .ok (.llcBad 0xAA00#16) ∧
  decode Config.standard (.ipproto 0x33#8) = .ok .pExt51 ∧
  decode Config.standard (.ipproto 0x3A#8) = .ok (.pUnknown 0x3A#8) ∧
  decode Config.standard (.tcpopt 0x08#8) = .ok .optTs ∧
  decode Config.standard (.sacklen 0x22#8) = .ok .sack4 ∧
  decode Config.standard (.dnslabel 0xC3#8) = .ok (.dnsPtr 0x03#6) ∧
  decode Config.standard (.dnslabel 0x3F#8) = .ok (.dnsLabel 0x3F#6) ∧
  decode Config.standard (.dnsrr 0x001C0001#32) = .ok .rrAaaaIn ∧
  decode Config.standard (.arpop 0x0002#16) = .ok .arpReply ∧
  decode Config.standard (.igmptype 0x22#8) = .ok .igmpV3Report ∧
  decode Config.standard (.udpport 0xD4310035#32) = .ok (.udpDnsDst 0xD431#16) ∧
  decode Config.standard (.tcpclass .synAck 0x012#9) = .ok (.segSynAck 0x012#9) ∧
  decode Config.standard (.tcpclass .fin 0x010#9) = .error (.classMiss .fin 0x010#9)

/-- Every well-formed instruction is read back from its selector, under every setting of the
parameters: no bit of an operand is lost (R133 to R146). How the length rows split under another
`ETHERTYPE_MIN` is the model's reading (assumption log, entry 8). -/
def Obligations.DecodeOfEncode : Prop :=
  ∀ (cfg : Config) (i : Instr), i.wf cfg = true → decode cfg (encode cfg i) = .ok i

/-- Every selector that decodes gives a well-formed instruction, whose selector is the one it was read
from: no two selectors give one instruction (R133 to R146; assumption log, entry 8). -/
def Obligations.EncodeOfDecode : Prop :=
  ∀ (cfg : Config) (sel : Selector) (i : Instr), decode cfg sel = .ok i →
    i.wf cfg = true ∧ encode cfg i = sel

/-- In every table but `TCPCLASS` each code selects a row, and under the default parameters it is the
first row of the table with `c AND mask = match`; in `TCPCLASS` the row that is tested matches in the
same sense (R133, R146). -/
def Obligations.FirstMatchingRow : Prop :=
  (∀ (cfg : Config) (sel : Selector), sel.table ≠ .tcpclass → ∃ i, decode cfg sel = .ok i) ∧
  (∀ (sel : Selector) (i : Instr), sel.table ≠ .tcpclass → decode Config.standard sel = .ok i →
    firstRow sel.table sel.code = some i.mnemonic) ∧
  (∀ (row : ClassRow) (f : BitVec 9),
    ((∃ i, decode Config.standard (.tcpclass row f) = .ok i) ↔ row.holds f = true) ∧
    ∀ i, decode Config.standard (.tcpclass row f) = .ok i →
      ∃ r ∈ opcodeRows, r.table = .tcpclass ∧ r.mnemonic = i.mnemonic ∧ r.hits f.toNat = true)

/-! ## Reset and the start of a request -/

/-- After reset the context registers hold the values of R53, the registry is empty (R54, R501), and
the parameters hold their defaults (R6). The code part of `SEL` at power-on, before any link type is
known, is the model's choice and is not stated (assumption log, entry 6). -/
def Obligations.ResetValues : Prop :=
  State.reset.ctx.off = 0 ∧ State.reset.ctx.rem = 0 ∧ State.reset.ctx.sel.table = .link ∧
  State.reset.ctx.depth = 0 ∧ State.reset.ctx.hops = 0 ∧ State.reset.ctx.dnsbase = 0 ∧
  State.reset.ctx.dnsend = 0 ∧ State.reset.ctx.optend = 0 ∧ State.reset.ctx.diag = [] ∧
  State.reset.ctx.status = .running ∧ State.reset.ctx.err = none ∧ State.reset.registry = [] ∧
  State.reset.cfg =
    { vlanTpid := 0x8100#16, ethertypeMin := 1536, etIpv4 := 0x0800#16, etArp := 0x0806#16,
      etIpv6 := 0x86DD#16, dnsPort := 53#16, dnsMaxPtrHops := 5, dnsRrCeiling := 100,
      ipv6RemainingBasis := .absolute, maxLayerDepth := none, trackIpv6 := false,
      flowCapacity := none, seqWidth := 32,
      igmpVersionTable :=
        { query := ⟨0x11#8, .v3⟩, v1Report := ⟨0x12#8, .v1⟩, v2Report := ⟨0x16#8, .v2⟩,
          leave := ⟨0x17#8, .v2⟩, v3Report := ⟨0x22#8, .v3⟩ } }

/-- The state after reset is a good state, and its records are sized: the invariants of
`SafetyKept` and `RecordsKept` hold at reset. -/
def Obligations.ResetSafe : Prop :=
  State.reset.safe = true ∧ State.reset.recordsSized = true

/-- The four fields of the frame header are little-endian, at offsets 0, 4, 8 and 12 (R85, R111). -/
def Obligations.HeaderLittleEndian : Prop :=
  ∀ h : Memory,
    let b (a : Nat) : Nat := (h.read a).toNat
    let rdle32 (o : Nat) : Nat := b o + 256 * b (o + 1) + 65536 * b (o + 2) + 16777216 * b (o + 3)
    (parseHeader h).tsSec.toNat = rdle32 0 ∧ (parseHeader h).tsUsec.toNat = rdle32 4 ∧
    (parseHeader h).capturedLength.toNat = rdle32 8 ∧
    (parseHeader h).originalLength.toNat = rdle32 12

/-- A `decode` call starts with every context register at its reset value and no partly built record,
with `B_len` the captured length (R53, R80, R170, R500); a buffer shorter than the captured length
fails before any decoder runs (R172). `B_len` after a failure and the empty `work` are the model's own
(assumption log, entries 25 and 5). -/
def Obligations.RequestStart : Prop :=
  ∀ (s : State) (lt : BitVec 3) (header : Memory) (buf : Buffer) (rest : List Call),
    s.mode = .idle → s.calls = .decode lt header buf :: rest →
    let hdr := parseHeader header
    let fresh : Ctx :=
      { off := 0, rem := 0, sel := .link lt, depth := 0, hops := 0, dnsbase := 0, dnsend := 0,
        optend := 0, diag := [], status := .running, err := none }
    (hdr.capturedLength.toNat ≤ buf.len →
      step s = .next
        { s with
          calls := rest, mode := .row, ctx := fresh, work := Work.empty
          req := { linkType := lt, header := header, hdr := hdr, buf := buf,
                   blen := hdr.capturedLength.toNat } }) ∧
    (buf.len < hdr.capturedLength.toNat →
      step s = .next
        { s with
          calls := rest, mode := .idle, work := Work.empty
          ctx := { fresh with status := .fatal, err := some (.bufferShort, 0) }
          req := { linkType := lt, header := header, hdr := hdr, buf := buf, blen := 0 }
          responses := s.responses ++ [.err .bufferShort 0 []] })

/-! ## Reads -/

/-- `MemRead` and `bytes` (R84): inside `B_len` the value is assembled from the lowest offset on, most
significant first; past `B_len` the read raises `TRUNCATED` at its first byte. -/
def Obligations.BoundedReads : Prop :=
  ∀ (s : State) (a n : Nat),
    let b (i : Nat) : Nat := (s.req.buf.cells.read (a + i)).toNat
    (∀ k, rd8 s a k =
      if a + 1 > s.req.blen then .next (s.raised .truncated a) else k (BitVec.ofNat 8 (b 0))) ∧
    (∀ k, rd16 s a k =
      if a + 2 > s.req.blen then .next (s.raised .truncated a)
      else k (BitVec.ofNat 16 (b 0 * 256 + b 1))) ∧
    (∀ k, rd32 s a k =
      if a + 4 > s.req.blen then .next (s.raised .truncated a)
      else k (BitVec.ofNat 32 (((b 0 * 256 + b 1) * 256 + b 2) * 256 + b 3))) ∧
    (∀ k, rdBytes s a n k =
      if a + n > s.req.blen then .next (s.raised .truncated a)
      else k ((List.range n).map (fun i => s.req.buf.cells.read (a + i))))

/-- A wide read is its halves, the lower offset more significant, and no value is lost in the width
(R83, R84; the spec's own inference in R86). -/
def Obligations.MixedWidthReads : Prop :=
  ∀ (s : State) (a : Nat),
    (s.u32 a).toNat = (s.u16 a).toNat * 65536 + (s.u16 (a + 2)).toNat ∧
    (s.u16 a).toNat = (s.u8 a).toNat * 256 + (s.u8 (a + 1)).toNat ∧
    s.u8 a = s.req.buf.cells.read a ∧
    s.u32 a = s.u16 a ++ s.u16 (a + 2) ∧ s.u16 a = s.u8 a ++ s.u8 (a + 1)

/-- A DNS read is bounded by the window as well as by `B_len` (R82, R367). -/
def Obligations.DnsWindowReads : Prop :=
  ∀ (s : State) (a n : Nat),
    (∀ k, drd8 s a k =
      if a < s.ctx.dnsbase ∨ s.ctx.dnsend < a + 1 then .next (s.raised .truncated a)
      else rd8 s a k) ∧
    (∀ k, drd16 s a k =
      if a < s.ctx.dnsbase ∨ s.ctx.dnsend < a + 2 then .next (s.raised .truncated a)
      else rd16 s a k) ∧
    (∀ k, drd32 s a k =
      if a < s.ctx.dnsbase ∨ s.ctx.dnsend < a + 4 then .next (s.raised .truncated a)
      else rd32 s a k) ∧
    (∀ k, dbytes s a n k =
      if s.ctx.dnsend < a + n then .next (s.raised .truncated a) else rdBytes s a n k)

/-! ## Fields -/

/-- The packed flag fields (R291, R351): each flag from its bit, the worked values of the rules, and the
nine-bit flag word of `TCPCLASS` with NS at bit 8 and FIN at bit 0 (R121). -/
def Obligations.FlagFields : Prop :=
  (∀ b12 b13 : Byte,
    tcpFlags b12 b13 =
      { ns := b12.getLsbD 0, cwr := b13.getLsbD 7, ece := b13.getLsbD 6, urg := b13.getLsbD 5,
        ack := b13.getLsbD 4, psh := b13.getLsbD 3, rst := b13.getLsbD 2, syn := b13.getLsbD 1,
        fin := b13.getLsbD 0 } ∧
    (tcpFlags b12 b13).word = b12.extractLsb' 0 1 ++ b13 ∧
    TcpFlags.ofWord (tcpFlags b12 b13).word = tcpFlags b12 b13) ∧
  tcpFlags 0x50#8 0x12#8 = { TcpFlags.clear with ack := true, syn := true } ∧
  tcpFlags 0x51#8 0x01#8 = { TcpFlags.clear with ns := true, fin := true } ∧
  (∀ f : U16,
    (dnsFlags f).qr = f.getLsbD 15 ∧ (dnsFlags f).opcode = f.extractLsb' 11 4 ∧
    (dnsFlags f).aa = f.getLsbD 10 ∧ (dnsFlags f).tc = f.getLsbD 9 ∧
    (dnsFlags f).rd = f.getLsbD 8 ∧ (dnsFlags f).ra = f.getLsbD 7 ∧
    (dnsFlags f).z = f.extractLsb' 4 3 ∧ (dnsFlags f).rcode = f.extractLsb' 0 4) ∧
  dnsFlags 0x0100#16 = { DnsFlags.clear with rd := true } ∧
  dnsFlags 0x8180#16 = { DnsFlags.clear with qr := true, rd := true, ra := true } ∧
  dnsFlags 0xFFFF#16 =
    { qr := true, opcode := 15#4, aa := true, tc := true, rd := true, ra := true, z := 7#3,
      rcode := 15#4 }

/-- The family of a NULL header (R204): both branches, the bytes that are not used, and the worked
values. -/
def Obligations.NullFamily : Prop :=
  (∀ f0 f1 f3 : Byte, f0 = 0#8 ∧ f1 = 0#8 → nullFamily f0 f1 f3 = f3) ∧
  (∀ f0 f1 f3 : Byte, ¬(f0 = 0#8 ∧ f1 = 0#8) → nullFamily f0 f1 f3 = f0) ∧
  nullFamily 0x00#8 0x00#8 0x18#8 = 24#8 ∧ nullFamily 0x18#8 0x00#8 0x00#8 = 24#8 ∧
  nullFamily 0x00#8 0x02#8 0x00#8 = 0#8 ∧ nullFamily 0x02#8 0x00#8 0x01#8 = 2#8 ∧
  decodeNullFamily 0#8 = .nfOther 0#8

/-! ## The link layer -/

/-- Row `LT_ETHERNET` (R190, R191), without and with a VLAN tag. -/
def Obligations.EthernetResult : Prop :=
  ∀ s : State, Config.tooDeep s.cfg (s.ctx.depth + 1) = false →
    (s.readable 0 14 = true → s.u16 12 ≠ s.cfg.vlanTpid →
      exec .ltEthernet s = .next
        { s with
          mode := .row
          ctx := { s.ctx with off := 0, depth := s.ctx.depth + 1, sel := .ethertype (s.u16 12) }
          work := { s.work with
            next := 14
            link := .ethernet
              { dst := s.bytes 0 6, src := s.bytes 6 6, vlan := none, ethertype := s.u16 12 } } }) ∧
    (s.readable 0 18 = true → s.u16 12 = s.cfg.vlanTpid →
      exec .ltEthernet s = .next
        { s with
          mode := .row
          ctx := { s.ctx with off := 0, depth := s.ctx.depth + 1, sel := .ethertype (s.u16 16) }
          work := { s.work with
            next := 18
            link := .ethernet
              { dst := s.bytes 0 6, src := s.bytes 6 6
                vlan := some
                  { priority := (s.u16 14).extractLsb' 13 3
                    cfi := (s.u16 14).extractLsb' 12 1
                    id := (s.u16 14).extractLsb' 0 12 }
                ethertype := s.u16 16 } } })

/-- Rows `LT_NULL` (R203) and `LT_LINUX_SLL` (R202). -/
def Obligations.NullAndSllResult : Prop :=
  ∀ s : State, Config.tooDeep s.cfg (s.ctx.depth + 1) = false →
    (s.readable 0 4 = true →
      let fam := if s.u8 0 = 0#8 ∧ s.u8 1 = 0#8 then s.u8 3 else s.u8 0
      exec .ltNull s = .next
        { s with
          mode := .row
          ctx := { s.ctx with off := 0, depth := s.ctx.depth + 1, sel := .nullfam fam }
          work := { s.work with
            next := 4, link := .null { familyField := s.bytes 0 4, family := fam } } }) ∧
    (s.readable 0 16 = true →
      exec .ltLinuxSll s = .next
        { s with
          mode := .row
          ctx := { s.ctx with off := 0, depth := s.ctx.depth + 1, sel := .ethertype (s.u16 14) }
          work := { s.work with
            next := 16
            link := .linuxCooked
              { packetType := s.u16 0, addressType := s.u16 2, addressLen := s.u16 4
                address := s.bytes 6 (min (s.u16 4).toNat 8), ethertype := s.u16 14 } } })

/-- Rows `LT_LLC`, `LLC_SNAP` and `LLC_BASIC` (R198 to R200): the SAP pair first, then the control
byte, three skipped bytes, and the ethertype; and row `ET_UNKNOWN` (R197): one diagnostic at the type
field and the placeholder `Unknown`. The subtraction at the type field cuts off at 0 in states that no
request reaches (assumption log, entry 26). -/
def Obligations.LlcAndUnknownResult : Prop :=
  ∀ s : State,
    (Config.tooDeep s.cfg (s.ctx.depth + 1) = false → s.readable 0 2 = true →
      exec .ltLlc s = .next
        { s with
          mode := .row
          ctx := { s.ctx with
            off := 0, depth := s.ctx.depth + 1, sel := .llcsap (s.u8 0 ++ s.u8 1) }
          work := { s.work with
            next := 8
            link := .llc { dsap := s.u8 0, ssap := s.u8 1, control := 0#8, ethertype := 0#16 } } }) ∧
    (s.readable s.ctx.off 8 = true →
      let o := s.ctx.off
      let after (sap : Byte) : State :=
        { s with
          mode := .row
          ctx := { s.ctx with sel := .ethertype (s.u16 (o + 6)) }
          work := { s.work with
            next := o + 8
            link := .llc
              { dsap := sap, ssap := sap, control := s.u8 (o + 2), ethertype := s.u16 (o + 6) } } }
      exec .llcSnap s = .next (after 0xAA#8) ∧ exec .llcBasic s = .next (after 0x00#8)) ∧
    (∀ t : BitVec 16,
      exec (.etUnknown t) s = .next
        { s with
          mode := .deliverNet (.unknown t)
          ctx := { s.ctx with
            diag := s.ctx.diag ++ [.unknownEthertype t (s.work.next - 2)] } })

/-! ## The network layer -/

/-- The IPv4 decoder under its four rows `LT_RAW_IPV4`, `ET_IPV4`, `NF_INET` and `P_IPV4` (R174, R193,
R205, R230 to R233, R239). Under the first three the header is the network payload, under the last it
is nested. -/
def Obligations.Ipv4Result : Prop :=
  ∀ (s : State) (o : Nat), Config.tooDeep s.cfg (s.ctx.depth + 1) = false →
    s.readable o 20 = true →
    let ihl := ((s.u8 o).extractLsb' 0 4).toNat
    let tl := (s.u16 (o + 2)).toNat
    let ff := s.u16 (o + 6)
    let h : Ipv4Hdr :=
      { version := (s.u8 o).extractLsb' 4 4, headerLength := ihl * 4, dsfield := s.u8 (o + 1)
        totalLength := s.u16 (o + 2), identification := s.u16 (o + 4)
        flags :=
          { reserved := ff.getLsbD 15, doNotFragment := ff.getLsbD 14, moreFragments := ff.getLsbD 13 }
        fragmentOffset := (ff.extractLsb' 0 13).toNat * 8, ttl := s.u8 (o + 8)
        protocol := s.u8 (o + 9), checksum := s.u16 (o + 10), checksumStatus := .unchecked
        src := s.bytes (o + 12) 4, dst := s.bytes (o + 16) 4 }
    let after (w : Work) : State :=
      { s with
        mode := .row
        ctx := { s.ctx with
          off := o, depth := s.ctx.depth + 1, rem := (tl : Int) - ((ihl * 4 : Nat) : Int)
          sel := .ipproto (s.u8 (o + 9)) }
        work := { w with next := o + ihl * 4 } }
    5 ≤ ihl → ihl * 4 ≤ tl →
    (o = 0 → exec .ltRawIpv4 s =
      .next (after { s.work with link := .raw, net := some (.ipv4 h), inner := [] })) ∧
    (s.work.next = o →
      exec .etIpv4 s = .next (after { s.work with net := some (.ipv4 h), inner := [] }) ∧
      exec .nfInet s = .next (after { s.work with net := some (.ipv4 h), inner := [] }) ∧
      exec .pIpv4 s = .next (after { s.work with inner := .ipv4 h :: s.work.inner }))

/-- The IPv6 decoder under its five rows `ET_IPV6`, `NF_INET6_24`, `NF_INET6_28`, `NF_INET6_30` and
`P_IPV6` (R195, R206, R234, R235, R242), with both bases of the remaining length. -/
def Obligations.Ipv6Result : Prop :=
  ∀ s : State, Config.tooDeep s.cfg (s.ctx.depth + 1) = false →
    let o := s.work.next
    s.readable o 40 = true →
    let w := s.u32 o
    let h : Ipv6Hdr :=
      { version := w.extractLsb' 28 4, trafficClass := w.extractLsb' 20 8
        flowLabel := w.extractLsb' 0 20, payloadLength := s.u16 (o + 4), nextHeader := s.u8 (o + 6)
        hopLimit := s.u8 (o + 7), src := s.bytes (o + 8) 16, dst := s.bytes (o + 24) 16 }
    let rem : Int :=
      if s.cfg.ipv6RemainingBasis = .absolute then (s.req.blen : Int) - 40
      else (s.req.blen : Int) - (o : Int) - 40
    let after (wk : Work) : State :=
      { s with
        mode := .row
        ctx := { s.ctx with
          off := o, depth := s.ctx.depth + 1, rem := rem, sel := .ipproto (s.u8 (o + 6)) }
        work := { wk with next := o + 40 } }
    let outer := after { s.work with net := some (.ipv6 h), inner := [] }
    0 ≤ rem ∧
    exec .etIpv6 s = .next outer ∧ exec .nfInet6_24 s = .next outer ∧
    exec .nfInet6_28 s = .next outer ∧ exec .nfInet6_30 s = .next outer ∧
    exec .pIpv6 s = .next (after { s.work with inner := .ipv6 h :: s.work.inner })

/-- The seven extension-header rows (R244, R246). -/
def Obligations.ExtensionResult : Prop :=
  ∀ s : State, Config.tooDeep s.cfg (s.ctx.depth + 1) = false →
    let o := s.work.next
    s.readable o 2 = true →
    let hl := ((s.u8 (o + 1)).toNat + 1) * 8
    (hl : Int) ≤ s.ctx.rem →
    let after (p : Byte) : State :=
      { s with
        mode := .row
        ctx := { s.ctx with
          off := o, depth := s.ctx.depth + 1, rem := s.ctx.rem - (hl : Int)
          sel := .ipproto (s.u8 o) }
        work := { s.work with
          next := o + hl
          inner := .ext { protocol := p, nextHeader := s.u8 o, lengthField := s.u8 (o + 1),
                          headerLength := hl } :: s.work.inner } }
    exec .pExt0 s = .next (after 0#8) ∧ exec .pExt43 s = .next (after 43#8) ∧
    exec .pExt51 s = .next (after 51#8) ∧ exec .pExt60 s = .next (after 60#8) ∧
    exec .pExt135 s = .next (after 135#8) ∧ exec .pExt139 s = .next (after 139#8) ∧
    exec .pExt140 s = .next (after 140#8)

/-- Row `P_NONEXT` (R243, R247): with no remaining length it is terminal; any other remaining length,
a negative one too, is fatal at the No-Next position. It reads no byte. -/
def Obligations.NoNextResult : Prop :=
  ∀ s : State, Config.tooDeep s.cfg (s.ctx.depth + 1) = false →
    (s.ctx.rem = 0 →
      exec .pNoNext s = .next
        { s with
          mode := .deliverProto .noNext
          ctx := { s.ctx with off := s.work.next, depth := s.ctx.depth + 1 } }) ∧
    (s.ctx.rem ≠ 0 →
      exec .pNoNext s =
        .next ((s.entered s.work.next).raised .noNextTrailing s.work.next))

/-- Row `ET_ARP` (R248) and the three rows of `ARPOP` (R249). The look-up of the operation writes `SEL`
(assumption log, entry 10). -/
def Obligations.ArpResult : Prop :=
  ∀ s : State,
    (Config.tooDeep s.cfg (s.ctx.depth + 1) = false →
      let o := s.work.next
      s.readable o 28 = true → s.u8 (o + 4) = 6#8 → s.u8 (o + 5) = 4#8 →
      exec .etArp s = .next
        { s with
          mode := .row
          ctx := { s.ctx with off := o, depth := s.ctx.depth + 1, sel := .arpop (s.u16 (o + 6)) }
          work := { s.work with
            arp :=
              { hardwareType := s.u16 o, protocolType := s.u16 (o + 2), hlen := 6#8, plen := 4#8
                operation := s.u16 (o + 6), opClass := .unknown, senderHw := s.bytes (o + 8) 6
                senderProto := s.bytes (o + 14) 4, targetHw := s.bytes (o + 18) 6
                targetProto := s.bytes (o + 24) 4 } } }) ∧
    exec .arpRequest s =
      .next { s with mode := .deliverNet (.arp { s.work.arp with opClass := .request }) } ∧
    exec .arpReply s =
      .next { s with mode := .deliverNet (.arp { s.work.arp with opClass := .reply }) } ∧
    ∀ op : BitVec 16, exec (.arpUnknown op) s =
      .next { s with mode := .deliverNet (.arp { s.work.arp with opClass := .unknown }) }

/-! ## Transport and leaf decoders -/

/-- Rows `P_ICMP` (R237, R307) and `P_IGMP` (R238, R308). -/
def Obligations.IcmpAndIgmpResult : Prop :=
  ∀ s : State, Config.tooDeep s.cfg (s.ctx.depth + 1) = false →
    let o := s.work.next
    (s.readable o 4 = true →
      exec .pIcmp s = .next
        { s with
          mode := .deliverProto (.icmp
            { icmpType := s.u8 o, icmpCode := s.u8 (o + 1), checksum := s.u16 (o + 2)
              checksumStatus := .unchecked })
          ctx := { s.ctx with off := o, depth := s.ctx.depth + 1 } }) ∧
    (s.readable o 8 = true →
      exec .pIgmp s = .next
        { s with
          mode := .row
          ctx := { s.ctx with off := o, depth := s.ctx.depth + 1, sel := .igmptype (s.u8 o) }
          work := { s.work with
            igmp :=
              { igmpType := s.u8 o, maxResponseTime := s.u8 (o + 1), checksum := s.u16 (o + 2)
                checksumStatus := .unchecked, group := s.bytes (o + 4) 4, version := none } } })

/-- The six rows of `IGMPTYPE` (R144, R309): the version column of the parameter table, and under its
default the versions 3, 1, 2, 2, 3 and none of the codes 0x11, 0x12, 0x16, 0x17, 0x22 and any other. -/
def Obligations.IgmpVersions : Prop :=
  (∀ s : State,
    let after (v : Option IgmpVersion) : Out :=
      .next { s with mode := .deliverProto (.igmp { s.work.igmp with version := v }) }
    let t := s.cfg.igmpVersionTable
    exec .igmpQuery s = after (some t.query.version) ∧
    exec .igmpV1Report s = after (some t.v1Report.version) ∧
    exec .igmpV2Report s = after (some t.v2Report.version) ∧
    exec .igmpLeave s = after (some t.leave.version) ∧
    exec .igmpV3Report s = after (some t.v3Report.version) ∧
    ∀ c : BitVec 8, exec (.igmpOther c) s = after none) ∧
  (∀ (s : State) (c : BitVec 8) (i : Instr), s.cfg = Config.standard →
    decode s.cfg (.igmptype c) = .ok i →
    exec i s = .next
      { s with
        mode := .deliverProto (.igmp
          { s.work.igmp with
            version :=
              if c = 0x11#8 then some .v3 else if c = 0x12#8 then some .v1
              else if c = 0x16#8 then some .v2 else if c = 0x17#8 then some .v2
              else if c = 0x22#8 then some .v3 else none }) })

/-- Row `P_TCP` (R240, R290 to R292) up to the option loop, and the end of the loop (R290, R293): the
data length, the explicit absent value, and the length underflow after the options. -/
def Obligations.TcpResult : Prop :=
  ∀ s : State,
    (Config.tooDeep s.cfg (s.ctx.depth + 1) = false →
      let o := s.work.next
      let hl := ((s.u8 (o + 12)).extractLsb' 4 4).toNat * 4
      s.readable o 20 = true → 20 ≤ hl →
      exec .pTcp s = .next
        { s with
          mode := .options
          ctx := { s.ctx with off := o, depth := s.ctx.depth + 1, optend := o + hl }
          work := { s.work with
            cur := o + 20
            tcp :=
              { srcPort := s.u16 o, dstPort := s.u16 (o + 2), seqno := s.u32 (o + 4)
                ackno := s.u32 (o + 8), headerLength := hl
                reserved := (s.u8 (o + 12)).extractLsb' 1 3
                flags := tcpFlags (s.u8 (o + 12)) (s.u8 (o + 13)), window := s.u16 (o + 14)
                checksum := s.u16 (o + 16), checksumStatus := .unchecked
                urgentPointer := s.u16 (o + 18)
                options :=
                  { mss := none, windowScale := none, sackPermitted := false, sack := none
                    timestamp := none }
                dataLength := 0, data := .absent } } }) ∧
    (s.mode = .options → s.ctx.optend ≤ s.work.cur →
      let o := s.ctx.off
      let hl := s.work.tcp.headerLength
      (s.ctx.rem < (hl : Int) → step s = .next (s.raised .lengthUnderflow o)) ∧
      (s.ctx.rem = (hl : Int) →
        step s = .next
          { s with
            mode := .deliverProto (.tcp { s.work.tcp with dataLength := 0, data := .absent }) }) ∧
      (∀ dl : Nat, 0 < dl → s.ctx.rem = (hl : Int) + (dl : Int) →
        step s = .next
          { s with
            mode := .deliverProto (.tcp
              { s.work.tcp with
                dataLength := dl
                data := .span (o + hl) dl (min dl (s.req.blen - (o + hl))) }) }))

/-- The rows of `TCPOPT` that complete an option (R295 to R299, R301, R302), each when its bytes lie in
the option area and the buffer and its length byte is right, and the look-up of `OPT_SACK` (R300). A
repeated option overwrites the earlier value (R310). -/
def Obligations.OptionResult : Prop :=
  ∀ s : State,
    let i := s.work.cur
    let opts := s.work.tcp.options
    let after (o : TcpOptions) (j : Nat) : Out :=
      .next
        { s with
          mode := .options
          work := { s.work with tcp := { s.work.tcp with options := o }, cur := j } }
    exec .optEol s = after opts s.ctx.optend ∧
    exec .optNop s = after opts (i + 1) ∧
    (i + 4 ≤ s.ctx.optend → s.readable i 4 = true → s.u8 (i + 1) = 4#8 →
      exec .optMss s = after { opts with mss := some (s.u16 (i + 2)) } (i + 4)) ∧
    (i + 3 ≤ s.ctx.optend → s.readable i 3 = true → s.u8 (i + 1) = 3#8 →
      exec .optWscale s = after { opts with windowScale := some (s.u8 (i + 2)) } (i + 3)) ∧
    (i + 2 ≤ s.ctx.optend → s.readable i 2 = true → s.u8 (i + 1) = 2#8 →
      exec .optSackOk s = after { opts with sackPermitted := true } (i + 2)) ∧
    (i + 10 ≤ s.ctx.optend → s.readable i 10 = true → s.u8 (i + 1) = 10#8 →
      exec .optTs s = after
        { opts with timestamp := some { value := s.u32 (i + 2), echo := s.u32 (i + 6) } } (i + 10)) ∧
    (i + 2 ≤ s.ctx.optend → s.readable i 2 = true →
      exec .optSack s = .next
        { s with mode := .row, ctx := { s.ctx with sel := .sacklen (s.u8 (i + 1)) } }) ∧
    (s.readable i 2 = true → 2 ≤ (s.u8 (i + 1)).toNat →
      i + (s.u8 (i + 1)).toNat ≤ s.ctx.optend →
      exec .optExp254 s = after opts (i + (s.u8 (i + 1)).toNat) ∧
      exec .optExp255 s = after opts (i + (s.u8 (i + 1)).toNat))

/-- The rows of `SACKLEN` (R140, R300): 1 to 4 pairs of edges for the lengths 10, 18, 26 and 34, and the
fatal error when the option runs past the area. -/
def Obligations.SackResult : Prop :=
  ∀ s : State,
    let i := s.work.cur
    let outcome (n : Nat) : Out :=
      if s.ctx.optend < i + (8 * n + 2) then .next (s.raised .tcpOptionBadLength i)
      else .next
        { s with
          mode := .options
          work := { s.work with
            tcp := { s.work.tcp with
              options := { s.work.tcp.options with
                sack := some ((List.range n).map
                  (fun j => (s.u32 (i + 2 + 8 * j), s.u32 (i + 6 + 8 * j)))) } }
            cur := i + (8 * n + 2) } }
    (s.readable i 10 = true → exec .sack1 s = outcome 1) ∧
    (s.readable i 18 = true → exec .sack2 s = outcome 2) ∧
    (s.readable i 26 = true → exec .sack3 s = outcome 3) ∧
    (s.readable i 34 = true → exec .sack4 s = outcome 4)

/-- Where the option loop and its rows raise. `TCP_OPTION_BAD_LENGTH` at the kind byte (R297 to R302,
R304): a length byte outside the area, a length other than the kind's, and an option that runs past the
area. `TRUNCATED` at the first byte of the read that does not lie below `B_len` (R84): the kind byte at
the head of the loop (R294), the length byte, the value bytes of MSS, window scale and timestamp, and
each edge of the SACK pairs (R300). -/
def Obligations.OptionTraps : Prop :=
  ∀ s : State,
    let i := s.work.cur
    let bad : Out := .next (s.raised .tcpOptionBadLength i)
    let l := s.u8 (i + 1)
    (s.ctx.optend < i + 2 →
      exec .optMss s = bad ∧ exec .optWscale s = bad ∧ exec .optSackOk s = bad ∧
      exec .optSack s = bad ∧ exec .optTs s = bad ∧ exec .optExp254 s = bad ∧
      exec .optExp255 s = bad) ∧
    (i + 2 ≤ s.ctx.optend → s.readable (i + 1) 1 = true →
      (l ≠ 4#8 → exec .optMss s = bad) ∧ (l ≠ 3#8 → exec .optWscale s = bad) ∧
      (l ≠ 2#8 → exec .optSackOk s = bad) ∧ (l ≠ 10#8 → exec .optTs s = bad) ∧
      (l.toNat < 2 → exec .optExp254 s = bad ∧ exec .optExp255 s = bad) ∧
      (s.ctx.optend < i + l.toNat →
        exec .optMss s = bad ∧ exec .optWscale s = bad ∧ exec .optTs s = bad ∧
        exec .optExp254 s = bad ∧ exec .optExp255 s = bad)) ∧
    (i + 2 ≤ s.ctx.optend → s.readable (i + 1) 1 = false →
      let cut : Out := .next (s.raised .truncated (i + 1))
      exec .optMss s = cut ∧ exec .optWscale s = cut ∧ exec .optSackOk s = cut ∧
      exec .optSack s = cut ∧ exec .optTs s = cut ∧ exec .optExp254 s = cut ∧
      exec .optExp255 s = cut) ∧
    (s.mode = .options → i < s.ctx.optend → s.readable i 1 = false →
      step s = .next (s.raised .truncated i)) ∧
    (s.readable (i + 1) 1 = true → l = 4#8 → i + 4 ≤ s.ctx.optend → s.readable (i + 2) 2 = false →
      exec .optMss s = .next (s.raised .truncated (i + 2))) ∧
    (s.readable (i + 1) 1 = true → l = 3#8 → i + 3 ≤ s.ctx.optend → s.readable (i + 2) 1 = false →
      exec .optWscale s = .next (s.raised .truncated (i + 2))) ∧
    (s.readable (i + 1) 1 = true → l = 10#8 → i + 10 ≤ s.ctx.optend →
      (s.readable (i + 2) 4 = false → exec .optTs s = .next (s.raised .truncated (i + 2))) ∧
      (s.readable (i + 2) 4 = true → s.readable (i + 6) 4 = false →
        exec .optTs s = .next (s.raised .truncated (i + 6)))) ∧
    (∀ (n j : Nat) (row : Instr),
      (n, row) ∈ [(1, Instr.sack1), (2, Instr.sack2), (3, Instr.sack3), (4, Instr.sack4)] →
      i + (8 * n + 2) ≤ s.ctx.optend → j < 2 * n → (j = 0 ∨ s.readable (i + 2) (4 * j) = true) →
      s.readable (i + 2 + 4 * j) 4 = false →
      exec row s = .next (s.raised .truncated (i + 2 + 4 * j)))

/-- Row `P_UDP` (R241, R305): the record with its payload reference, whatever the IP remaining length,
and the look-up of the ports. -/
def Obligations.UdpResult : Prop :=
  ∀ s : State, Config.tooDeep s.cfg (s.ctx.depth + 1) = false →
    let o := s.work.next
    let n := (s.u16 (o + 4)).toNat - 8
    s.readable o 8 = true → 8 ≤ (s.u16 (o + 4)).toNat →
    exec .pUdp s = .next
      { s with
        mode := .row
        ctx := { s.ctx with
          off := o, depth := s.ctx.depth + 1, sel := .udpport (s.u16 o ++ s.u16 (o + 2)) }
        work := { s.work with
          udp :=
            { srcPort := s.u16 o, dstPort := s.u16 (o + 2), length := s.u16 (o + 4)
              checksum := s.u16 (o + 6), checksumStatus := .unchecked
              data := .span (o + 8) n (min n (s.req.blen - (o + 8))), dns := none } } }

/-- The rows of `UDPPORT` (R305, R306, R350): without port 53 the UDP record is complete; with it the
DNS window is set and the twelve header bytes are read. A message shorter than its header is truncated
at the first field that does not fit (R350, R367). -/
def Obligations.UdpPortRows : Prop :=
  ∀ (s : State) (a b : BitVec 16),
    (exec (.udpPlain a b) s =
      .next { s with mode := .deliverProto (.udp { s.work.udp with dns := none }) }) ∧
    (let p := s.ctx.off + 8
     let e := min (p + (s.work.udp.length.toNat - 8)) s.req.blen
     let opened : State := { s with ctx := { s.ctx with dnsbase := p, dnsend := e } }
     let after : State :=
       { opened with
         mode := .sections
         work := { s.work with
           dns := { DnsWork.empty with
             msg := { DnsMsg.blank with
               id := s.u16 p, flags := dnsFlags (s.u16 (p + 2)), qdcount := s.u16 (p + 4)
               ancount := s.u16 (p + 6), nscount := s.u16 (p + 8), arcount := s.u16 (p + 10) }
             pending := [.question, .answer, .authority, .additional]
             cursor := p + 12 } } }
     (p + 12 ≤ e →
       exec (.udpDnsSrc a) s = .next after ∧ exec (.udpDnsDst b) s = .next after) ∧
     (∀ j : Nat, j < 6 → (j = 0 ∨ p + 2 * j ≤ e) → e < p + 2 * j + 2 →
       exec (.udpDnsSrc a) s = .next (opened.raised .truncated (p + 2 * j)) ∧
       exec (.udpDnsDst b) s = .next (opened.raised .truncated (p + 2 * j))))

/-! ## DNS -/

/-- The name loop and the rows of `DNSLABEL` that go on (R355 to R358, R360, R361): a label, the
terminator with the cursor after it or after the first pointer, and a pointer within the hop limit; a
pointer past the limit raises before it is followed. Where a read of the name falls outside the window or
past `B_len` it raises `TRUNCATED` at its first byte (R367): the first byte of a name step, the bytes of
a label, and the second byte of a pointer. -/
def Obligations.NameRows : Prop :=
  ∀ (s : State) (n : BitVec 6),
    let d := s.work.dns
    let withDns (d' : DnsWork) (m : Mode) : State := { s with mode := m, work := { s.work with dns := d' } }
    exec .dnsTerm s = .next (withDns { d with cursor := d.resume.getD (d.cur + 1) } .afterName) ∧
    (d.cur + 1 + n.toNat ≤ s.ctx.dnsend → s.readable (d.cur + 1) n.toNat = true →
      exec (.dnsLabel n) s = .next (withDns
        { d with labels := d.labels ++ [s.bytes (d.cur + 1) n.toNat], cur := d.cur + 1 + n.toNat }
        .name)) ∧
    (s.ctx.dnsend < d.cur + 1 + n.toNat ∨ s.readable (d.cur + 1) n.toNat = false →
      exec (.dnsLabel n) s = .next (s.raised .truncated (d.cur + 1))) ∧
    (s.mode = .name → s.dnsReadable d.cur 1 = false →
      step s = .next (s.raised .truncated d.cur)) ∧
    (s.dnsReadable (d.cur + 1) 1 = false →
      exec (.dnsPtr n) s = .next (s.raised .truncated (d.cur + 1))) ∧
    (s.dnsReadable (d.cur + 1) 1 = true → s.ctx.hops + 1 ≤ s.cfg.dnsMaxPtrHops →
      exec (.dnsPtr n) s = .next
        { withDns
            { d with
              resume := some (d.resume.getD (d.cur + 2))
              cur := s.ctx.dnsbase + (n.toNat * 256 + (s.u8 (d.cur + 1)).toNat) } .name with
          ctx := { s.ctx with hops := s.ctx.hops + 1 } }) ∧
    (s.dnsReadable (d.cur + 1) 1 = true → s.cfg.dnsMaxPtrHops < s.ctx.hops + 1 →
      exec (.dnsPtr n) s = .next
        (({ s with ctx := { s.ctx with hops := s.ctx.hops + 1 } }).raised .dnsPointerLimit d.cur))

/-- The rows of `DNSRR` (R362 to R366): the record is completed with its data and the cursor goes to
`d + rl`; an A or AAAA record of another length is tolerated with a diagnostic; NS data starts a name
of its own hop count. Address bytes outside the window or past `B_len` raise `TRUNCATED` at the first of
them (R367). -/
def Obligations.RecordRows : Prop :=
  ∀ s : State,
    let d := s.work.dns
    let done (data : RData) (diag : List Diag) : Out :=
      .next
        { s with
          mode := .sections
          ctx := { s.ctx with diag := s.ctx.diag ++ diag }
          work := { s.work with
            dns := { d with
              records := d.records ++ [{ d.rr with rdata := data }]
              left := d.left - 1
              cursor := d.rdStart + d.rr.rdlength.toNat } } }
    (d.rr.rdlength = 4#16 → d.rdStart + 4 ≤ s.ctx.dnsend → s.readable d.rdStart 4 = true →
      exec .rrAIn s = done (.a (s.bytes d.rdStart 4)) []) ∧
    (d.rr.rdlength = 4#16 → s.ctx.dnsend < d.rdStart + 4 ∨ s.readable d.rdStart 4 = false →
      exec .rrAIn s = .next (s.raised .truncated d.rdStart)) ∧
    (d.rr.rdlength = 16#16 → s.ctx.dnsend < d.rdStart + 16 ∨ s.readable d.rdStart 16 = false →
      exec .rrAaaaIn s = .next (s.raised .truncated d.rdStart)) ∧
    (d.rr.rdlength ≠ 4#16 →
      exec .rrAIn s = done .unresolved [.dnsRdataLength 1#16 d.rr.rdlength d.rdStart]) ∧
    (d.rr.rdlength = 16#16 → d.rdStart + 16 ≤ s.ctx.dnsend → s.readable d.rdStart 16 = true →
      exec .rrAaaaIn s = done (.aaaa (s.bytes d.rdStart 16)) []) ∧
    (d.rr.rdlength ≠ 16#16 →
      exec .rrAaaaIn s = done .unresolved [.dnsRdataLength 28#16 d.rr.rdlength d.rdStart]) ∧
    exec .rrNsIn s = .next
      { s with
        mode := .name
        ctx := { s.ctx with hops := 0 }
        work := { s.work with
          dns := { d with labels := [], cur := d.rdStart, resume := none, nameUse := .nsData } } } ∧
    ∀ c : BitVec 32, exec (.rrOther c) s = done .unresolved []

/-- The step after a name (R353, R354, R363): a question reads its type and class; a record reads its
ten fixed bytes, is truncated at its first data byte when the data runs past the window, and looks its
type and class up; NS data completes its record. The first fixed field that falls outside the window or
past `B_len` raises `TRUNCATED` at its first byte (R367). -/
def Obligations.AfterName : Prop :=
  ∀ s : State, s.mode = .afterName →
    let d := s.work.dns
    let c := d.cursor
    (d.nameUse = .question → s.ctx.dnsbase ≤ c → c + 4 ≤ s.ctx.dnsend → s.readable c 4 = true →
      step s = .next
        { s with
          mode := .sections
          work := { s.work with
            dns := { d with
              questions := d.questions ++
                [{ name := d.labels, qtype := s.u16 c, qclass := s.u16 (c + 2) }]
              left := d.left - 1
              cursor := c + 4 } } }) ∧
    (d.nameUse = .owner → s.ctx.dnsbase ≤ c → c + 10 ≤ s.ctx.dnsend → s.readable c 10 = true →
      let rl := (s.u16 (c + 8)).toNat
      (c + 10 + rl ≤ s.ctx.dnsend →
        step s = .next
          { s with
            mode := .row
            ctx := { s.ctx with sel := .dnsrr (s.u16 c ++ s.u16 (c + 2)) }
            work := { s.work with
              dns := { d with
                rr := { name := d.labels, rtype := s.u16 c, rclass := s.u16 (c + 2)
                        ttl := s.u32 (c + 4), rdlength := s.u16 (c + 8), rdata := .unresolved }
                rdStart := c + 10 } } }) ∧
      (s.ctx.dnsend < c + 10 + rl → step s = .next (s.raised .truncated (c + 10)))) ∧
    (d.nameUse = .question → ∀ f : Nat × Nat, f ∈ [(0, 2), (2, 2)] →
      (∀ g ∈ [(0, 2), (2, 2)], g.1 < f.1 → s.dnsReadable (c + g.1) g.2 = true) →
      s.dnsReadable (c + f.1) f.2 = false → step s = .next (s.raised .truncated (c + f.1))) ∧
    (d.nameUse = .owner → ∀ f : Nat × Nat, f ∈ [(0, 2), (2, 2), (4, 4), (8, 2)] →
      (∀ g ∈ [(0, 2), (2, 2), (4, 4), (8, 2)], g.1 < f.1 → s.dnsReadable (c + g.1) g.2 = true) →
      s.dnsReadable (c + f.1) f.2 = false → step s = .next (s.raised .truncated (c + f.1))) ∧
    (d.nameUse = .nsData →
      step s = .next
        { s with
          mode := .sections
          work := { s.work with
            dns := { d with
              records := d.records ++ [{ d.rr with rdata := .ns d.labels }]
              left := d.left - 1
              cursor := d.rdStart + d.rr.rdlength.toNat } } })

/-- The head of the section loops (R350, R352): a count above the ceiling marks its section and skips
every later one with one diagnostic; any other count, exactly the ceiling too, is decoded; a finished
section is stored; after the last one the UDP record is complete. -/
def Obligations.SectionSteps : Prop :=
  ∀ s : State, s.mode = .sections →
    let d := s.work.dns
    let withDns (d' : DnsWork) : State := { s with work := { s.work with dns := d' } }
    (d.current = none → d.pending = [] →
      step s = .next
        { s with mode := .deliverProto (.udp { s.work.udp with dns := some d.msg }) }) ∧
    (∀ (k : SectionKind) (later : List SectionKind), d.current = none → d.pending = k :: later →
      (s.cfg.dnsRrCeiling < (d.msg.count k).toNat →
        ∃ m : DnsMsg,
          step s = .next
            { withDns { d with msg := m, pending := [], current := none } with
              ctx := { s.ctx with
                diag := s.ctx.diag ++ [.dnsSectionMalformed k (d.msg.count k) d.cursor] } } ∧
          m.id = d.msg.id ∧ m.flags = d.msg.flags ∧ (∀ k', m.count k' = d.msg.count k') ∧
          m.questions = (if .question ∈ later then .malformed d.msg.qdcount .skipped
            else if k = .question then .malformed d.msg.qdcount .ceiling else d.msg.questions) ∧
          m.answers = (if .answer ∈ later then .malformed d.msg.ancount .skipped
            else if k = .answer then .malformed d.msg.ancount .ceiling else d.msg.answers) ∧
          m.authorities = (if .authority ∈ later then .malformed d.msg.nscount .skipped
            else if k = .authority then .malformed d.msg.nscount .ceiling else d.msg.authorities) ∧
          m.additionals = (if .additional ∈ later then .malformed d.msg.arcount .skipped
            else if k = .additional then .malformed d.msg.arcount .ceiling
            else d.msg.additionals)) ∧
      ((d.msg.count k).toNat ≤ s.cfg.dnsRrCeiling →
        step s = .next (withDns
          { d with pending := later, current := some k, left := (d.msg.count k).toNat
                   questions := [], records := [] }))) ∧
    (∀ k : SectionKind, d.current = some k → 0 < d.left →
      step s = .next
        { withDns { d with labels := [], cur := d.cursor, resume := none
                           nameUse := if k = .question then .question else .owner } with
          mode := .name
          ctx := { s.ctx with hops := 0 } }) ∧
    (∀ k : SectionKind, d.current = some k → d.left = 0 →
      step s = .next (withDns
        { d with
          current := none, questions := [], records := []
          msg := match k with
            | .question => { d.msg with questions := .decoded d.questions }
            | .answer => { d.msg with answers := .decoded d.records }
            | .authority => { d.msg with authorities := .decoded d.records }
            | .additional => { d.msg with additionals := .decoded d.records } }))

/-! ## Delivery and the fatal error -/

/-- The frame is built when the outermost payload is finished (R36, R170, R175): one response `Ok` with
the request's link type, the header's values, and the diagnostics in order; a protocol payload is first
put into the headers that await it, the innermost first. The empty `work` after it is the model's form
of a request without partly built records (assumption log, entries 5 and 21). -/
def Obligations.FrameDelivery : Prop :=
  ∀ s : State,
    let delivered (np : NetPayload) : Out :=
      .next
        { s with
          mode := .idle
          ctx := { s.ctx with status := .ok }
          work := Work.empty
          responses := s.responses ++ [.ok
            { linkType := s.req.linkType
              capturedAt := { sec := s.req.hdr.tsSec, usec := s.req.hdr.tsUsec }
              originalLength := s.req.hdr.originalLength
              capturedLength := s.req.hdr.capturedLength
              payload := { hdr := s.work.link, payload := np } } s.ctx.diag] }
    (∀ np, s.mode = .deliverNet np → step s = delivered np) ∧
    (∀ p h, s.mode = .deliverProto p → s.work.net = some (.ipv4 h) →
      step s = delivered (.ipv4 h (wrapInner s.work.inner p))) ∧
    (∀ p h, s.mode = .deliverProto p → s.work.net = some (.ipv6 h) →
      step s = delivered (.ipv6 h (wrapInner s.work.inner p))) ∧
    (∀ p, wrapInner [] p = p) ∧
    (∀ p h l, wrapInner (.ipv4 h :: l) p = wrapInner l (.ipv4 h p)) ∧
    (∀ p h l, wrapInner (.ipv6 h :: l) p = wrapInner l (.ipv6 h p)) ∧
    (∀ p h l, wrapInner (.ext h :: l) p = wrapInner l (.headerExtension h p))

/-- The codes that spell no decodable frame (R147): each row's effect is its fatal error, at the offset
its rule names (R173, R196, R201, R207, R245, R300, R303, R359), with the trap entry of R464. The empty
`work` is the model's form of discarded records (assumption log, entries 5 and 21), and the subtraction
at the type field cuts off at 0 in states that no request reaches (assumption log, entry 26). -/
def Obligations.FatalRows : Prop :=
  ∀ s : State,
    let fatal (c : FatalCode) (o : Nat) : Out :=
      .next
        { s with
          mode := .idle
          ctx := { s.ctx with err := some (c, o), status := .fatal }
          work := Work.empty
          responses := s.responses ++ [.err c o s.ctx.diag] }
    (∀ c, exec (.ltOther c) s = fatal .unsupportedLinkType 0) ∧
    (∀ c, exec (.etLenLo c) s = fatal .ethertypeIsLength (s.work.next - 2)) ∧
    (∀ c, exec (.etLenHi c) s = fatal .ethertypeIsLength (s.work.next - 2)) ∧
    (∀ c, exec (.nfOther c) s = fatal .nullBadFamily s.ctx.off) ∧
    (∀ c, exec (.llcBad c) s = fatal .llcBadSap s.ctx.off) ∧
    (∀ c, exec (.pUnknown c) s = fatal .ipProtoUnknown s.ctx.off) ∧
    (∀ c, exec (.optBad c) s = fatal .tcpOptionUnknownKind s.work.cur) ∧
    (∀ c, exec (.sackBad c) s = fatal .tcpOptionBadLength s.work.cur) ∧
    (∀ c, exec (.dnsRsv01 c) s = fatal .dnsBadLabelType s.work.dns.cur) ∧
    (∀ c, exec (.dnsRsv10 c) s = fatal .dnsBadLabelType s.work.dns.cur)

/-- Where a header decoder raises on what its header says (R230, R246, R248, R290, R305): a header
length below the fixed header, a declared length below the header it must contain, and ARP lengths
other than 6 and 4. -/
def Obligations.HeaderTraps : Prop :=
  ∀ s : State, Config.tooDeep s.cfg (s.ctx.depth + 1) = false →
    let at4 (i : Instr) : Prop :=
      let o := headerStart i s
      let ihl := ((s.u8 o).extractLsb' 0 4).toNat
      (s.readable o 1 = true → ihl < 5 →
        exec i s = .next ((s.entered o).raised .headerLengthInvalid o)) ∧
      (s.readable o 20 = true → 5 ≤ ihl → (s.u16 (o + 2)).toNat < ihl * 4 →
        exec i s = .next ((s.entered o).raised .lengthUnderflow (o + 2)))
    let o := s.work.next
    let ext (i : Instr) : Prop :=
      s.readable o 2 = true → s.ctx.rem < (((s.u8 (o + 1)).toNat + 1) * 8 : Nat) →
      exec i s = .next ((s.entered o).raised .lengthUnderflow (o + 1))
    at4 .ltRawIpv4 ∧ at4 .etIpv4 ∧ at4 .nfInet ∧ at4 .pIpv4 ∧
    ext .pExt0 ∧ ext .pExt43 ∧ ext .pExt51 ∧ ext .pExt60 ∧ ext .pExt135 ∧ ext .pExt139 ∧
    ext .pExt140 ∧
    (s.readable o 8 = true → ¬(s.u8 (o + 4) = 6#8 ∧ s.u8 (o + 5) = 4#8) →
      exec .etArp s = .next ((s.entered o).raised .arpUnsupported (o + 4))) ∧
    (s.readable o 14 = true → ((s.u8 (o + 12)).extractLsb' 4 4).toNat < 5 →
      exec .pTcp s = .next ((s.entered o).raised .headerLengthInvalid (o + 12))) ∧
    (s.readable o 8 = true → (s.u16 (o + 4)).toNat < 8 →
      exec .pUdp s = .next ((s.entered o).raised .lengthUnderflow (o + 4)))

/-- The first field of a header that does not lie below `B_len` raises `TRUNCATED` at its first byte,
before any check that stands after it (R84, R463): the fields that a decoder reads whatever they hold,
the two fields of an 802.1Q tag (R190, R191), and the control byte and the ethertype of a decodable SAP
pair (R198). -/
def Obligations.TruncatedAtFirstField : Prop :=
  (∀ (i : Instr) (s : State) (f : Nat × Nat), isHeaderRow i = true →
    Config.tooDeep s.cfg (s.ctx.depth + 1) = false →
    let o := headerStart i s
    f ∈ headerFields i → s.req.blen < o + f.1 + f.2 →
    (∀ g ∈ headerFields i, g.1 < f.1 → o + g.1 + g.2 ≤ s.req.blen) →
    (f.1 ≤ (headerCheck i s o).1 ∨ (headerCheck i s o).2 = true) →
    exec i s = .next ((s.entered o).raised .truncated (o + f.1))) ∧
  (∀ s : State, Config.tooDeep s.cfg (s.ctx.depth + 1) = false → s.readable 0 14 = true →
    s.u16 12 = s.cfg.vlanTpid →
    (s.req.blen < 16 → exec .ltEthernet s = .next ((s.entered 0).raised .truncated 14)) ∧
    (16 ≤ s.req.blen → s.req.blen < 18 →
      exec .ltEthernet s = .next ((s.entered 0).raised .truncated 16))) ∧
  (∀ (s : State) (i : Instr), i ∈ [Instr.llcSnap, Instr.llcBasic] →
    let o := s.ctx.off
    (s.req.blen < o + 3 → exec i s = .next (s.raised .truncated (o + 2))) ∧
    (o + 3 ≤ s.req.blen → s.req.blen < o + 8 → exec i s = .next (s.raised .truncated (o + 6))))

/-- Every header decoder raises `DEPTH_LIMIT` at the header being entered, before it reads a byte, when
the depth would exceed `MAX_LAYER_DEPTH`; an unbounded depth never does (R176, R474). -/
def Obligations.DepthLimit : Prop :=
  (∀ (i : Instr) (s : State) (n : Nat), isHeaderRow i = true → s.cfg.maxLayerDepth = some n →
    n < s.ctx.depth + 1 →
    exec i s =
      .next ((s.entered (headerStart i s)).raised .depthLimit (headerStart i s))) ∧
  (∀ (cfg : Config) (n : Nat), cfg.maxLayerDepth = none → Config.tooDeep cfg n = false)

/-- Trap entry (R464, R465): when a step of a request ends with `STATUS = FATAL`, it has set `ERR`,
discarded every partly built record, and answered `Err` with the code, the offset and the diagnostics
emitted before it; no frame is answered. When it ends with `STATUS = OK`, it has answered `Ok` with the
diagnostics; otherwise it has answered nothing. The empty `work` is the model's form of discarded
records (assumption log, entries 5 and 21). -/
def Obligations.RaiseEffect : Prop :=
  ∀ s t : State, s.parsing = true → s.modeOk = true → s.ctx.status = .running →
    step s = .next t →
    (t.ctx.status = .fatal →
      t.mode = .idle ∧ t.work = Work.empty ∧ t.ctx.diag = s.ctx.diag ∧
      ∃ c o, t.ctx.err = some (c, o) ∧ t.responses = s.responses ++ [.err c o s.ctx.diag]) ∧
    (t.ctx.status = .ok →
      t.mode = .idle ∧ t.work = Work.empty ∧ t.ctx.err = s.ctx.err ∧
      ∃ f, t.responses = s.responses ++ [.ok f s.ctx.diag]) ∧
    (t.ctx.status = .running →
      t.mode ≠ .idle ∧ t.ctx.err = s.ctx.err ∧ t.responses = s.responses)

/-! ## Frames over all rows -/

/-- Who writes each context register (R31): whatever the row and the state, a register that changed was
changed by a row that the register table names. `OFF` is set by the row that begins a header decoder and
not by the row that transfers to it, which is the model's reading of R32 (assumption log, entry 18);
`SEL` is written by every row that dispatches or looks a code up, `ET_ARP` among them (entry 10). -/
def Obligations.RegisterWriters : Prop :=
  ∀ (i : Instr) (s t : State), exec i s = .next t →
    (t.ctx.off ≠ s.ctx.off ∨ t.ctx.depth ≠ s.ctx.depth → isHeaderRow i = true) ∧
    (t.ctx.sel ≠ s.ctx.sel →
      i ∈ [.ltEthernet, .ltNull, .ltRawIpv4, .ltLinuxSll, .ltLlc, .etIpv4, .etArp, .etIpv6, .nfInet,
           .nfInet6_24, .nfInet6_28, .nfInet6_30, .llcSnap, .llcBasic, .pExt0, .pIgmp, .pIpv4, .pUdp,
           .pIpv6, .pExt43, .pExt51, .pExt60, .pExt135, .pExt139, .pExt140, .optSack]) ∧
    (t.ctx.rem ≠ s.ctx.rem →
      i ∈ [.ltRawIpv4, .etIpv4, .nfInet, .pIpv4, .etIpv6, .nfInet6_24, .nfInet6_28, .nfInet6_30,
           .pIpv6, .pExt0, .pExt43, .pExt51, .pExt60, .pExt135, .pExt139, .pExt140]) ∧
    (t.ctx.hops ≠ s.ctx.hops → i = .rrNsIn ∨ ∃ n, i = .dnsPtr n) ∧
    (t.ctx.dnsbase ≠ s.ctx.dnsbase ∨ t.ctx.dnsend ≠ s.ctx.dnsend →
      ∃ p, i = .udpDnsSrc p ∨ i = .udpDnsDst p) ∧
    (t.ctx.optend ≠ s.ctx.optend → i = .pTcp) ∧
    (t.ctx.diag ≠ s.ctx.diag → i = .rrAIn ∨ i = .rrAaaaIn ∨ ∃ c, i = .etUnknown c) ∧
    (t.ctx.status ≠ s.ctx.status ∨ t.ctx.err ≠ s.ctx.err →
      t.ctx.status = .fatal ∧ t.mode = .idle)

/-- The frame of the parser's rows (R56, R89): no row of a parser table writes the parameters, the
request ports, any byte of the header or the buffer, the host's calls, or the tracker's registry and
output; the responses grow by at most one. -/
def Obligations.ParserRowFrame : Prop :=
  ∀ (i : Instr) (s t : State), isParserRow i = true → exec i s = .next t →
    t.cfg = s.cfg ∧ t.calls = s.calls ∧ t.req = s.req ∧
    (∀ a, t.req.buf.cells.read a = s.req.buf.cells.read a) ∧
    (∀ a, t.req.header.read a = s.req.header.read a) ∧
    t.registry = s.registry ∧ t.obs = s.obs ∧ t.observed = s.observed ∧
    (t.responses = s.responses ∨
      ∃ c o, t.responses = s.responses ++ [.err c o s.ctx.diag])

/-- The frame of the tracker's rows (R56, R471): no row of `TCPCLASS` writes the parameters, the parser's
registers, records or responses, any byte of memory, the host's calls, or another flow of the
registry. That `exec` of such a row is the per-flow step is the model's form (assumption log,
entry 11). -/
def Obligations.TrackerRowFrame : Prop :=
  ∀ (i : Instr) (s t : State), isParserRow i = false → exec i s = .next t →
    t.cfg = s.cfg ∧ t.calls = s.calls ∧ t.req = s.req ∧ t.ctx = s.ctx ∧ t.work = s.work ∧
    t.responses = s.responses ∧
    (∀ a, t.req.buf.cells.read a = s.req.buf.cells.read a) ∧
    (∀ a, t.req.header.read a = s.req.header.read a) ∧
    ∃ o, s.obs = some o ∧ t.obs = none ∧ t.mode = .idle ∧
      (∀ k, k ≠ o.key → mapFind t.registry k = mapFind s.registry k) ∧
      ∃ sigs, t.observed = s.observed ++ [o.out ++ sigs] ∧ sigs.length ≤ 1

/-! ## The tracker -/

/-- `flowKey` (R403): unordered, the smaller endpoint first by address bytes and then by port, two equal
endpoints give `lo = hi`, the key determines the pair, and the worked example. -/
def Obligations.FlowKeyUnordered : Prop :=
  (∀ a b : Endpoint, flowKey a b = flowKey b a) ∧
  (∀ a b : Endpoint, Endpoint.lt (flowKey a b).hi (flowKey a b).lo = false) ∧
  (∀ a : Endpoint, (flowKey a a).lo = a ∧ (flowKey a a).hi = a) ∧
  (∀ a b c d : Endpoint, flowKey a b = flowKey c d → (a = c ∧ b = d) ∨ (a = d ∧ b = c)) ∧
  (∀ a b : Endpoint, Endpoint.lt a b = true ↔
    bytesLt a.addr b.addr = true ∨ (a.addr = b.addr ∧ a.port.toNat < b.port.toNat)) ∧
  (∀ (x y : Byte) (l m : Bytes), bytesLt (x :: l) (y :: m) = true ↔
    x.toNat < y.toNat ∨ (x = y ∧ bytesLt l m = true)) ∧
  (∀ (x : Byte) (l : Bytes), bytesLt [] (x :: l) = true ∧ bytesLt (x :: l) [] = false) ∧
  bytesLt [] [] = false ∧
  flowKey { addr := [10#8, 0#8, 0#8, 2#8], port := 80#16 }
      { addr := [10#8, 0#8, 0#8, 1#8], port := 1234#16 } =
    { lo := { addr := [10#8, 0#8, 0#8, 1#8], port := 1234#16 }
      hi := { addr := [10#8, 0#8, 0#8, 2#8], port := 80#16 } }

/-- The segment of a frame, and which frames have one (R402). -/
def Obligations.SegmentFilter : Prop :=
  ∀ (cfg : Config) (f : DecodedFrame),
    let seg (src dst : Bytes) (iph : Nat) (t : TcpRec) : Segment :=
      { src := { addr := src, port := t.srcPort }, dst := { addr := dst, port := t.dstPort }
        tcp := t, time := f.capturedAt, ipHdrBytes := iph, tcpHdrBytes := t.headerLength
        payloadBytes := t.dataLength }
    (∀ h t, f.payload.payload = .ipv4 h (.tcp t) →
      segmentOf cfg f = some (seg h.src h.dst h.headerLength t)) ∧
    (∀ h t, f.payload.payload = .ipv6 h (.tcp t) →
      segmentOf cfg f = if cfg.trackIpv6 then some (seg h.src h.dst 40 t) else none) ∧
    (∀ s, segmentOf cfg f = some s →
      (∃ h, f.payload.payload = .ipv4 h (.tcp s.tcp)) ∨
      (cfg.trackIpv6 = true ∧ ∃ h, f.payload.payload = .ipv6 h (.tcp s.tcp)))

/-- The start of an `observe` call (R400, R401, R404, R426): an untracked frame changes nothing and
returns nothing; a known key works on its flow; an unseen key with room works on a new flow after
`SESSION`; an unseen key without room only returns `REGISTRY_FULL`. -/
def Obligations.ObserveStart : Prop :=
  ∀ (s : State) (f : DecodedFrame) (rest : List Call), s.mode = .idle →
    s.calls = .observe f :: rest →
    (segmentOf s.cfg f = none →
      step s = .next
        { s with calls := rest, mode := .idle, obs := none, observed := s.observed ++ [[]] }) ∧
    (∀ seg, segmentOf s.cfg f = some seg →
      let k := flowKey seg.src seg.dst
      (∀ fl, mapFind s.registry k = some fl →
        step s = .next
          { s with
            calls := rest, mode := .observe
            obs := some { seg := seg, key := k, flow := fl, out := [], row := classRow fl seg } }) ∧
      (mapFind s.registry k = none → (∀ n, s.cfg.flowCapacity = some n → s.registry.length < n) →
        let fl : TcpFlow :=
          { key := k, state := .closed, fresh := true, src := none, dst := none, synTime := none
            connectTime := none, closeTime := none, send := DirectionalCounters.zero
            recv := DirectionalCounters.zero }
        step s = .next
          { s with
            calls := rest, mode := .observe
            obs := some
              { seg := seg, key := k, flow := fl
                out := [{ code := .session, key := k, arg := .none }], row := classRow fl seg } }) ∧
      (∀ n, mapFind s.registry k = none → s.cfg.flowCapacity = some n → n ≤ s.registry.length →
        step s = .next
          { s with
            calls := rest, mode := .idle, obs := none
            observed := s.observed ++ [[{ code := .registryFull, key := k, arg := .none }]] }))

/-- Row `SEG_SYN_NOACK`: syn-retry on a flow that is not fresh, in every state (R406), and the opening
SYN of a fresh flow (R407), with the endpoint's counters (R424), the flow's cleared fresh flag (R428) and
the flow kept for the end of the call (R400). That `exec` of the row is the per-flow step is the model's
form (assumption log, entry 11). -/
def Obligations.SynRowResult : Prop :=
  ∀ (s : State) (o : Observation) (f : BitVec 9), s.obs = some o →
    let fl := o.flow
    let done (fl' : TcpFlow) (sigs : List Signal) : Out :=
      .next
        { s with
          mode := .idle, obs := none
          registry := mapInsert FlowKey.lt s.registry o.key { fl' with fresh := false }
          observed := s.observed ++ [o.out ++ sigs] }
    (fl.fresh = false →
      exec (.segSynNoAck f) s = done fl [{ code := .synRetry, key := fl.key, arg := .none }]) ∧
    (fl.fresh = true → fl.state = .closed →
      exec (.segSynNoAck f) s = done
        { fl with
          src := some o.seg.src, dst := some o.seg.dst, synTime := some o.seg.time
          send := { fl.send with
            ipBytes := fl.send.ipBytes + o.seg.ipHdrBytes
            tcpBytes := fl.send.tcpBytes + o.seg.tcpHdrBytes
            payloadBytes := fl.send.payloadBytes + o.seg.payloadBytes
            isn := some o.seg.tcp.seqno, windowScale := o.seg.tcp.options.windowScale }
          state := .synSent } [])

/-- Rows `SEG_SYN_ACK` and `SEG_ACK`: the handshake reply in `SYN_SENT` (R409) and the completion in
`SYN_RECV` (R411), with the endpoint's counters (R424), the flow's cleared fresh flag (R428) and the flow
kept for the end of the call (R400). That `exec` of the row is the per-flow step is the model's form
(assumption log, entry 11). -/
def Obligations.HandshakeRowResult : Prop :=
  ∀ (s : State) (o : Observation) (f : BitVec 9), s.obs = some o →
    let fl := o.flow
    let counted (c : DirectionalCounters) : DirectionalCounters :=
      { c with
        ipBytes := c.ipBytes + o.seg.ipHdrBytes
        tcpBytes := c.tcpBytes + o.seg.tcpHdrBytes
        payloadBytes := c.payloadBytes + o.seg.payloadBytes }
    let done (fl' : TcpFlow) (sigs : List Signal) : Out :=
      .next
        { s with
          mode := .idle, obs := none
          registry := mapInsert FlowKey.lt s.registry o.key { fl' with fresh := false }
          observed := s.observed ++ [o.out ++ sigs] }
    (f &&& 0x012#9 = 0x012#9 → fl.state = .synSent → fl.dst = some o.seg.src →
      exec (.segSynAck f) s = done
        { fl with
          recv := { counted fl.recv with
            isn := some o.seg.tcp.seqno, windowScale := o.seg.tcp.options.windowScale }
          state := .synRecv } []) ∧
    (f &&& 0x010#9 = 0x010#9 → fl.state = .synRecv → fl.src = some o.seg.src →
      exec (.segAck f) s = done
        { fl with send := counted fl.send, connectTime := some o.seg.time, state := .estab }
        [{ code := .start, key := fl.key, arg := .none }])

/-- Row `SEG_FIN`: a FIN of either endpoint in `ESTAB`, after its counters, data and acknowledgement
(R413, R414, R417), in `FIN_WAIT` (R419) and in `CLOSE_WAIT` (R420). The flags are not
SYN-without-ACK. The counters, the cleared fresh flag and the kept flow are R424, R428 and R400; that
`exec` of the row is the per-flow step is the model's form (assumption log, entry 11). -/
def Obligations.FinRowResult : Prop :=
  ∀ (s : State) (o : Observation) (f : BitVec 9), s.obs = some o → f &&& 0x001#9 = 0x001#9 →
    f &&& 0x012#9 ≠ 0x002#9 →
    let fl := o.flow
    let counted (c : DirectionalCounters) : DirectionalCounters :=
      { c with
        ipBytes := c.ipBytes + o.seg.ipHdrBytes
        tcpBytes := c.tcpBytes + o.seg.tcpHdrBytes
        payloadBytes := c.payloadBytes + o.seg.payloadBytes }
    let data (d : Direction) (c : DirectionalCounters) : DirectionalCounters × List Signal :=
      dataStep s.cfg.seqWidth fl.key d (counted c) o.seg
    let done (fl' : TcpFlow) (sigs : List Signal) : Out :=
      .next
        { s with
          mode := .idle, obs := none
          registry := mapInsert FlowKey.lt s.registry o.key { fl' with fresh := false }
          observed := s.observed ++ [o.out ++ sigs] }
    (fl.state = .estab → fl.src = some o.seg.src →
      exec (.segFin f) s = done
        { fl with send := ackStep fl.recv (data .send fl.send).1 o.seg, state := .finWait }
        (data .send fl.send).2) ∧
    (fl.state = .estab → fl.src ≠ some o.seg.src → fl.dst = some o.seg.src →
      exec (.segFin f) s = done
        { fl with recv := ackStep fl.send (data .recv fl.recv).1 o.seg, state := .closeWait }
        (data .recv fl.recv).2) ∧
    (fl.state = .finWait → fl.dst = some o.seg.src →
      exec (.segFin f) s = done { fl with state := .closing } []) ∧
    (fl.state = .closeWait → fl.src = some o.seg.src →
      exec (.segFin f) s = done { fl with state := .lastAck } [])

/-- `ESTAB`, data, retransmission and acknowledgement (R415, R416, R425): the boundary modulo
2^`SEQ_WIDTH`; its first copy records its time, a count of 0 and the data signal; a later copy only
counts and signals; the first acknowledgement of a boundary of the other direction is timed. Every other
entry of the three maps is unchanged. The keys are natural numbers, and the acknowledgement number is
compared as read, which under another `SEQ_WIDTH` is the model's reading (assumption log, entry 9). -/
def Obligations.DataAndAcks : Prop :=
  ∀ (width : Nat) (k : FlowKey) (d : Direction) (c other : DirectionalCounters) (s : Segment),
    let b := (s.tcp.seqno.toNat + s.payloadBytes) % 2 ^ width
    let r := dataStep width k d c s
    (s.payloadBytes = 0 → r = (c, [])) ∧
    (∀ t n, 0 < s.payloadBytes → mapFind c.packets b = some t → mapFind c.retrans b = some n →
      r.1.packets = c.packets ∧ r.1.acks = c.acks ∧ mapFind r.1.retrans b = some (n + 1) ∧
      (∀ b', b' ≠ b → mapFind r.1.retrans b' = mapFind c.retrans b') ∧
      r.2 = [{ code := .retransmit, key := k, arg := .boundary d b }]) ∧
    (0 < s.payloadBytes → mapFind c.packets b = none →
      mapFind r.1.packets b = some s.time ∧ mapFind r.1.retrans b = some 0 ∧ r.1.acks = c.acks ∧
      (∀ b', b' ≠ b → mapFind r.1.packets b' = mapFind c.packets b' ∧
        mapFind r.1.retrans b' = mapFind c.retrans b') ∧
      r.2 = [{ code := if d = .send then .dataSend else .dataRecv, key := k,
               arg := .data s.tcp.data }]) ∧
    r.1.isn = c.isn ∧ r.1.windowScale = c.windowScale ∧ r.1.ipBytes = c.ipBytes ∧
    r.1.tcpBytes = c.tcpBytes ∧ r.1.payloadBytes = c.payloadBytes ∧
    (let a := ackStep other c s
     let n := s.tcp.ackno.toNat
     mapFind a.acks n =
       (if (mapFind other.packets n).isSome ∧ mapFind c.acks n = none then some s.time
        else mapFind c.acks n) ∧
     (∀ n', n' ≠ n → mapFind a.acks n' = mapFind c.acks n') ∧
     a = { c with acks := a.acks })

/-- The transition table (R405 to R425): for every flow and every segment, the whole next flow with its
counters and times, the signals with their arguments, and whether the flow ends. In `ESTAB` a segment of
either endpoint, with FIN or without, counts, records its data or retransmission (`dataStep`, R415) and
its acknowledgement (`ackStep`, R416) in its own direction, in that order; `DataAndAcks` says what those
two do. R430 is the spec's own derivation from the other rules. -/
def Obligations.TransitionTable : Prop :=
  ∀ (width : Nat) (fl : TcpFlow) (s : Segment),
    let c := classesOf s.tcp.flags.word
    let r := flowStep width c fl s
    let init := fl.src = some s.src
    let resp := fl.dst = some s.src
    let sig (code : SignalCode) : Signal := { code := code, key := fl.key, arg := .none }
    let goes (fl' : TcpFlow) (sigs : List Signal) : Prop :=
      r = { flow := fl', sigs := sigs, ended := false }
    let ends : Prop :=
      r = { flow := { fl with closeTime := some s.time, state := .closed }
            sigs := [sig .finished], ended := true }
    let counted (x : DirectionalCounters) : DirectionalCounters :=
      { x with
        ipBytes := x.ipBytes + s.ipHdrBytes
        tcpBytes := x.tcpBytes + s.tcpHdrBytes
        payloadBytes := x.payloadBytes + s.payloadBytes }
    let opened (x : DirectionalCounters) : DirectionalCounters :=
      { counted x with isn := some s.tcp.seqno, windowScale := s.tcp.options.windowScale }
    let data (d : Direction) (x : DirectionalCounters) : DirectionalCounters × List Signal :=
      dataStep width fl.key d (counted x) s
    (c.synNoAck = true ∧ fl.fresh = false → goes fl [sig .synRetry]) ∧
    (¬(c.synNoAck = true ∧ fl.fresh = false) →
      (fl.state = .closed →
        (fl.fresh = true ∧ c.synNoAck = true →
          goes { fl with src := some s.src, dst := some s.dst, synTime := some s.time
                         send := opened fl.send, state := .synSent } []) ∧
        (¬(fl.fresh = true ∧ c.synNoAck = true) →
          goes { fl with src := some s.src, dst := some s.dst, connectTime := some s.time
                         state := .estab } [])) ∧
      (fl.state = .synSent →
        (resp ∧ c.synAck = true → goes { fl with recv := opened fl.recv, state := .synRecv } []) ∧
        (¬(resp ∧ c.synAck = true) → goes { fl with state := .closed } [sig .reset])) ∧
      (fl.state = .synRecv →
        (init ∧ c.ack = true →
          goes { fl with send := counted fl.send, connectTime := some s.time, state := .estab }
            [sig .start]) ∧
        (¬(init ∧ c.ack = true) → goes fl [])) ∧
      (fl.state = .estab →
        (init →
          goes { fl with send := ackStep fl.recv (data .send fl.send).1 s
                         state := if c.fin = true then .finWait else .estab }
            (data .send fl.send).2) ∧
        (¬init ∧ resp →
          goes { fl with recv := ackStep fl.send (data .recv fl.recv).1 s
                         state := if c.fin = true then .closeWait else .estab }
            (data .recv fl.recv).2) ∧
        (¬init ∧ ¬resp → goes fl [sig .nonMatching])) ∧
      (fl.state = .finWait →
        goes { fl with state := if resp ∧ c.fin = true then .closing else .finWait } []) ∧
      (fl.state = .closeWait →
        goes { fl with state := if init ∧ c.fin = true then .lastAck else .closeWait } []) ∧
      (fl.state = .lastAck → (resp → ends) ∧ (¬resp → goes fl [])) ∧
      (fl.state = .closing → (init → ends) ∧ (¬init → goes fl [])))

/-- An `observe` call in progress on a good state ends in one step (R400, R423, R427, R428): it returns
the signals so far and the step's own, at most one; the flow is stored, no longer fresh, unless it
ended; a flow that ended is gone from the registry. With `TransitionTable` this says what every segment,
one without FIN in `ESTAB` too, does to the machine. -/
def Obligations.ObserveEnd : Prop :=
  ∀ (s : State) (o : Observation), s.mode = .observe → s.safe = true → s.obs = some o →
    let r := flowStep s.cfg.seqWidth (classesOf o.seg.tcp.flags.word) o.flow o.seg
    ∃ t, step s = .next t ∧ t.mode = .idle ∧ t.obs = none ∧
      t.observed = s.observed ++ [o.out ++ r.sigs] ∧ r.sigs.length ≤ 1 ∧
      t.cfg = s.cfg ∧ t.ctx = s.ctx ∧ t.work = s.work ∧ t.req = s.req ∧ t.calls = s.calls ∧
      t.responses = s.responses ∧
      (r.ended = true → mapFind t.registry o.key = none) ∧
      (r.ended = false → mapFind t.registry o.key = some { r.flow with fresh := false }) ∧
      (∀ k, k ≠ o.key → mapFind t.registry k = mapFind s.registry k)

/-- `NON_MATCHING` is never emitted from a good state: a segment of a key always comes from one of the
two endpoints of its flow. R418 says so as the spec's own inference; here it is stated of the model. -/
def Obligations.NonMatchingNever : Prop :=
  ∀ (s t : State) (out : List Signal), s.safe = true → step s = .next t →
    t.observed = s.observed ++ [out] → ∀ g ∈ out, g.code ≠ .nonMatching

/-! ## Invariants -/

/-- Every step keeps every memory canonical, and the parameters as they are (R33). The canonical form of
a memory is the model's own (assumption log, entry 7). -/
def Obligations.MemoryKeptCanonical : Prop :=
  ∀ s t : State, s.memoryCanonical = true → step s = .next t →
    t.memoryCanonical = true ∧ t.cfg = s.cfg

/-- Every step keeps a good state good: the mode fits the records under way, the depth, hop and window
bounds hold (R80, R360, R367, R474), `STATUS` and `ERR` agree (R34), and the registry is a map of
well-kept flows within its capacity (R46, R47, R426, R428). The canonical forms of memories and maps, the
modes and the empty `work` are the model's own (assumption log, entries 4, 5, 7 and 15). -/
def Obligations.SafetyKept : Prop :=
  ∀ s t : State, s.safe = true → step s = .next t → t.safe = true

/-- Every step keeps the sizes that the spec gives its records (R38, R39, R41, R43, R45): the partly
built ones, and those of every response. -/
def Obligations.RecordsKept : Prop :=
  ∀ s t : State, s.safe = true → s.recordsSized = true → step s = .next t →
    t.recordsSized = true

/-- No good state is stuck: every step answers a next state, for a request and for an `observe` call
(R13, R429, R467). -/
def Obligations.Progress : Prop :=
  ∀ s : State, s.safe = true → ∃ t, step s = .next t

/-! ## Whole-machine rules -/

/-- A step of a request depends on nothing but the parameters, the request and its own context: with
another tracker and other earlier responses it does the same (R2, R471; the inference of R30). -/
def Obligations.ParserIsPure : Prop :=
  ∀ (s : State) (registry : List (FlowKey × TcpFlow)) (obs : Option Observation)
    (observed : List (List Signal)) (earlier : List Response),
    s.parsing = true → (s.mode = .row → s.ctx.sel.table ≠ .tcpclass) →
    step ((s.withTracker registry obs observed).withResponses earlier) =
      mapNext
        (fun t => (t.withTracker registry obs observed).withResponses
          (earlier ++ t.responses.drop s.responses.length)) (step s) ∧
    ∀ t, step s = .next t →
      t.registry = s.registry ∧ t.obs = s.obs ∧ t.observed = s.observed ∧
      t.responses.take s.responses.length = s.responses

/-- Bytes of the host's buffer at or past `B_len` are invisible: a step of a request does the same
whatever they hold (R80). -/
def Obligations.InvisibleBytes : Prop :=
  ∀ (s : State) (m : Memory), s.mode ≠ .idle →
    (∀ a, a < s.req.blen → m.read a = s.req.buf.cells.read a) →
    step (s.withCells m) = mapNext (fun t => t.withCells m) (step s)

/-- Every request ends (R36, R84, R294, R360; the inference of R250): from every good state with a
request under way, finitely many steps lead to an idle block with exactly one more response, and change
neither the host's other calls nor the tracker. -/
def Obligations.RequestEnds : Prop :=
  ∀ s : State, s.safe = true → s.parsing = true →
    ∃ (n : Nat) (t : State) (r : Response), Host.Core.run Sys2Proof.core n s = .next t ∧ t.mode = .idle ∧
      t.responses = s.responses ++ [r] ∧ t.calls = s.calls ∧ t.registry = s.registry ∧
      t.observed = s.observed ∧ t.cfg = s.cfg
end

