-- ==== Sys2Proof/Laws/Memory.lean ====
section
/-! SUPPORT. What the memory operations do: a read after a write, the canonical form, byte strings. -/

namespace Sys2Proof.Machine

@[simp] theorem Memory.read_nil (a : Nat) : Memory.read [] a = unlistedByte := rfl

/-- A canonical memory lists nothing below its bound. -/
theorem Memory.read_below {lo : Nat} {m : Memory} (h : Memory.wfFrom lo m = true) {a : Nat}
    (ha : a < lo) : m.read a = unlistedByte := by
  induction m generalizing lo with
  | nil => rfl
  | cons c rest ih =>
    obtain ⟨x, b⟩ := c
    simp only [Memory.wfFrom, Bool.and_eq_true, decide_eq_true_eq] at h
    have hx : x ≠ a := by omega
    simp only [Memory.read, if_neg hx]
    exact ih h.2 (by omega)

/-- A write leaves every other byte alone, whatever the memory. -/
theorem Memory.read_write_other (m : Memory) {a c : Nat} (b : Byte) (h : c ≠ a) :
    (m.write a b).read c = m.read c := by
  induction m with
  | nil =>
    by_cases hb : b = unlistedByte
    · simp [Memory.write, hb]
    · simp [Memory.write, hb, Memory.read, Ne.symm h]
  | cons e rest ih =>
    obtain ⟨x, v⟩ := e
    simp only [Memory.write]
    split
    · split
      · rfl
      · simp [Memory.read, Ne.symm h]
    · split
      · next hax =>
        split
        · subst hax; simp [Memory.read, Ne.symm h]
        · subst hax; simp [Memory.read, Ne.symm h]
      · simp only [Memory.read, ih]

/-- A read after a write to the same address gives the byte written, in a canonical memory. -/
theorem Memory.read_write_same {lo : Nat} {m : Memory} (hm : Memory.wfFrom lo m = true) (a : Nat)
    (b : Byte) : (m.write a b).read a = b := by
  induction m generalizing lo with
  | nil =>
    by_cases hb : b = unlistedByte
    · simp [Memory.write, hb]
    · simp [Memory.write, hb, Memory.read]
  | cons e rest ih =>
    obtain ⟨x, v⟩ := e
    simp only [Memory.wfFrom, Bool.and_eq_true, decide_eq_true_eq] at hm
    simp only [Memory.write]
    split
    · next hax =>
      split
      · next hb =>
        have hx : x ≠ a := by omega
        simp only [Memory.read, if_neg hx, hb]
        exact Memory.read_below hm.2 (by omega)
      · simp [Memory.read]
    · split
      · next hax =>
        split
        · next hb => rw [hb]; exact Memory.read_below hm.2 (by omega)
        · simp [Memory.read]
      · next hax =>
        have hx : x ≠ a := fun e => hax e.symm
        simp only [Memory.read, if_neg hx]
        exact ih hm.2

/-- A lower bound may be lowered. -/
theorem Memory.wfFrom_mono {lo lo' : Nat} {m : Memory} (h : Memory.wfFrom lo m = true)
    (hl : lo' ≤ lo) : Memory.wfFrom lo' m = true := by
  cases m with
  | nil => rfl
  | cons e rest =>
    obtain ⟨x, b⟩ := e
    simp only [Memory.wfFrom, Bool.and_eq_true, decide_eq_true_eq] at h ⊢
    exact ⟨⟨by omega, h.1.2⟩, h.2⟩

/-- A write keeps the canonical form above a bound. -/
theorem Memory.wfFrom_write {lo : Nat} {m : Memory} (h : Memory.wfFrom lo m = true) {a : Nat}
    (b : Byte) (ha : lo ≤ a) : Memory.wfFrom lo (m.write a b) = true := by
  induction m generalizing lo with
  | nil =>
    by_cases hb : b = unlistedByte
    · simp [Memory.write, hb, Memory.wfFrom]
    · simp [Memory.write, hb, Memory.wfFrom, ha]
  | cons e rest ih =>
    obtain ⟨x, v⟩ := e
    have h' := h
    simp only [Memory.wfFrom, Bool.and_eq_true, decide_eq_true_eq] at h
    simp only [Memory.write]
    split
    · next hax =>
      split
      · exact h'
      · next hb =>
        simp only [Memory.wfFrom, Bool.and_eq_true, decide_eq_true_eq]
        exact ⟨⟨ha, by simpa using hb⟩, ⟨by omega, h.1.2⟩, h.2⟩
    · split
      · next hax =>
        split
        · exact Memory.wfFrom_mono h.2 (by omega)
        · next hb =>
          simp only [Memory.wfFrom, Bool.and_eq_true, decide_eq_true_eq]
          exact ⟨⟨ha, by simpa using hb⟩, by rw [hax]; exact h.2⟩
      · simp only [Memory.wfFrom, Bool.and_eq_true, decide_eq_true_eq]
        exact ⟨⟨h.1.1, h.1.2⟩, ih h.2 (by omega)⟩

/-- A write keeps the canonical form. -/
theorem Memory.wf_write {m : Memory} (h : m.wf = true) (a : Nat) (b : Byte) :
    (m.write a b).wf = true := Memory.wfFrom_write h b (Nat.zero_le a)

/-- Placing a byte string keeps the canonical form. -/
theorem Memory.wf_place {m : Memory} (h : m.wf = true) (a : Nat) (l : Bytes) :
    (m.place a l).wf = true := by
  induction l generalizing m a with
  | nil => exact h
  | cons b rest ih => exact ih (Memory.wf_write h a b) (a + 1)

/-- The memory of a byte string is canonical. -/
theorem Memory.wf_ofBytes (l : Bytes) : (Memory.ofBytes l).wf = true := Memory.wf_place rfl 0 l

/-- Placing a byte string leaves the bytes below and above it alone. -/
theorem Memory.read_place_outside (m : Memory) (a : Nat) (l : Bytes) {c : Nat}
    (h : c < a ∨ a + l.length ≤ c) : (m.place a l).read c = m.read c := by
  induction l generalizing m a with
  | nil => rfl
  | cons b rest ih =>
    simp only [List.length_cons] at h
    simp only [Memory.place]
    rw [ih _ _ (by omega), Memory.read_write_other _ _ (by omega)]

/-- A byte string of `n` bytes has `n` bytes. -/
@[simp] theorem Memory.slice_length (m : Memory) (a n : Nat) : (m.slice a n).length = n := by
  induction n generalizing a with
  | zero => rfl
  | succ n ih => simp [Memory.slice, ih]

/-- Memories that agree on a range have the same byte string there. -/
theorem Memory.slice_congr {m m' : Memory} {a n : Nat}
    (h : ∀ c, a ≤ c → c < a + n → m.read c = m'.read c) : m.slice a n = m'.slice a n := by
  induction n generalizing a with
  | zero => rfl
  | succ n ih =>
    simp only [Memory.slice]
    rw [h a (by omega) (by omega), ih (fun c h1 h2 => h c (by omega) (by omega))]

/-- One byte at an offset is the byte the buffer holds there. -/
theorem State.u8_eq_read (s : State) (a : Nat) : s.u8 a = s.req.buf.cells.read a := by
  simp [State.u8, Memory.slice, bigEndian]

/-- The machine starts with canonical memories. -/
theorem State.reset_memory : State.reset.req.header.wf = true ∧ State.reset.req.buf.wf = true := by
  decide

end Sys2Proof.Machine
end

