-- ==== Sys2Proof/Laws/Ops.lean ====
section
/-! SUPPORT. One lemma for each shared operation, which says once everything it can do: a read either
hands on the value or raises `TRUNCATED`, entering a header either goes on or raises `DEPTH_LIMIT`, and
so on. Later proofs cite these and do not unfold the operations. -/

namespace Sys2Proof.Machine

/-! ## The fatal error -/

/-- A raise answers the raised state (R464). -/
@[simp] theorem State.raise_eq (s : State) (c : FatalCode) (o : Nat) :
    s.raise c o = .next (s.raised c o) := rfl

/-! ## Bounded reads -/

/-- A `rd8` inside the bounds hands on the value. -/
theorem rd8_ok (s : State) (a : Nat) (k : Byte → Out) (h : s.readable a 1 = true) :
    rd8 s a k = k (s.u8 a) := if_pos h

/-- A `rd8` outside the bounds raises `TRUNCATED` at its first byte. -/
theorem rd8_truncated (s : State) (a : Nat) (k : Byte → Out) (h : s.readable a 1 = false) :
    rd8 s a k = .next (s.raised .truncated a) := if_neg (by simp [h])

/-- Everything a `rd8` can answer as a next state. -/
theorem rd8_next (s : State) (a : Nat) (k : Byte → Out) (t : State) (h : rd8 s a k = .next t) :
    (s.readable a 1 = true ∧ k (s.u8 a) = .next t) ∨ (s.readable a 1 = false ∧ t = s.raised .truncated a) := by
  by_cases hr : s.readable a 1 = true
  · exact .inl ⟨hr, by rw [← h, rd8_ok s a k hr]⟩
  · have hr' : s.readable a 1 = false := by simpa using hr
    rw [rd8_truncated s a k hr'] at h
    exact .inr ⟨hr', by injection h with h; exact h.symm⟩

/-- A `rd16` inside the bounds hands on the value. -/
theorem rd16_ok (s : State) (a : Nat) (k : U16 → Out) (h : s.readable a 2 = true) :
    rd16 s a k = k (s.u16 a) := if_pos h

/-- A `rd16` outside the bounds raises `TRUNCATED` at its first byte. -/
theorem rd16_truncated (s : State) (a : Nat) (k : U16 → Out) (h : s.readable a 2 = false) :
    rd16 s a k = .next (s.raised .truncated a) := if_neg (by simp [h])

/-- Everything a `rd16` can answer as a next state. -/
theorem rd16_next (s : State) (a : Nat) (k : U16 → Out) (t : State) (h : rd16 s a k = .next t) :
    (s.readable a 2 = true ∧ k (s.u16 a) = .next t) ∨ (s.readable a 2 = false ∧ t = s.raised .truncated a) := by
  by_cases hr : s.readable a 2 = true
  · exact .inl ⟨hr, by rw [← h, rd16_ok s a k hr]⟩
  · have hr' : s.readable a 2 = false := by simpa using hr
    rw [rd16_truncated s a k hr'] at h
    exact .inr ⟨hr', by injection h with h; exact h.symm⟩

/-- A `rd32` inside the bounds hands on the value. -/
theorem rd32_ok (s : State) (a : Nat) (k : U32 → Out) (h : s.readable a 4 = true) :
    rd32 s a k = k (s.u32 a) := if_pos h

/-- A `rd32` outside the bounds raises `TRUNCATED` at its first byte. -/
theorem rd32_truncated (s : State) (a : Nat) (k : U32 → Out) (h : s.readable a 4 = false) :
    rd32 s a k = .next (s.raised .truncated a) := if_neg (by simp [h])

/-- Everything a `rd32` can answer as a next state. -/
theorem rd32_next (s : State) (a : Nat) (k : U32 → Out) (t : State) (h : rd32 s a k = .next t) :
    (s.readable a 4 = true ∧ k (s.u32 a) = .next t) ∨ (s.readable a 4 = false ∧ t = s.raised .truncated a) := by
  by_cases hr : s.readable a 4 = true
  · exact .inl ⟨hr, by rw [← h, rd32_ok s a k hr]⟩
  · have hr' : s.readable a 4 = false := by simpa using hr
    rw [rd32_truncated s a k hr'] at h
    exact .inr ⟨hr', by injection h with h; exact h.symm⟩

/-- A `rdBytes` inside the bounds hands on the value. -/
theorem rdBytes_ok (s : State) (a n : Nat) (k : Bytes → Out) (h : s.readable a n = true) :
    rdBytes s a n k = k (s.bytes a n) := if_pos h

/-- A `rdBytes` outside the bounds raises `TRUNCATED` at its first byte. -/
theorem rdBytes_truncated (s : State) (a n : Nat) (k : Bytes → Out) (h : s.readable a n = false) :
    rdBytes s a n k = .next (s.raised .truncated a) := if_neg (by simp [h])

/-- Everything a `rdBytes` can answer as a next state. -/
theorem rdBytes_next (s : State) (a n : Nat) (k : Bytes → Out) (t : State) (h : rdBytes s a n k = .next t) :
    (s.readable a n = true ∧ k (s.bytes a n) = .next t) ∨ (s.readable a n = false ∧ t = s.raised .truncated a) := by
  by_cases hr : s.readable a n = true
  · exact .inl ⟨hr, by rw [← h, rdBytes_ok s a n k hr]⟩
  · have hr' : s.readable a n = false := by simpa using hr
    rw [rdBytes_truncated s a n k hr'] at h
    exact .inr ⟨hr', by injection h with h; exact h.symm⟩

/-- A `drd8` inside the bounds hands on the value. -/
theorem drd8_ok (s : State) (a : Nat) (k : Byte → Out) (h : s.dnsReadable a 1 = true) :
    drd8 s a k = k (s.u8 a) := if_pos h

/-- A `drd8` outside the bounds raises `TRUNCATED` at its first byte. -/
theorem drd8_truncated (s : State) (a : Nat) (k : Byte → Out) (h : s.dnsReadable a 1 = false) :
    drd8 s a k = .next (s.raised .truncated a) := if_neg (by simp [h])

/-- Everything a `drd8` can answer as a next state. -/
theorem drd8_next (s : State) (a : Nat) (k : Byte → Out) (t : State) (h : drd8 s a k = .next t) :
    (s.dnsReadable a 1 = true ∧ k (s.u8 a) = .next t) ∨ (s.dnsReadable a 1 = false ∧ t = s.raised .truncated a) := by
  by_cases hr : s.dnsReadable a 1 = true
  · exact .inl ⟨hr, by rw [← h, drd8_ok s a k hr]⟩
  · have hr' : s.dnsReadable a 1 = false := by simpa using hr
    rw [drd8_truncated s a k hr'] at h
    exact .inr ⟨hr', by injection h with h; exact h.symm⟩

/-- A `drd16` inside the bounds hands on the value. -/
theorem drd16_ok (s : State) (a : Nat) (k : U16 → Out) (h : s.dnsReadable a 2 = true) :
    drd16 s a k = k (s.u16 a) := if_pos h

/-- A `drd16` outside the bounds raises `TRUNCATED` at its first byte. -/
theorem drd16_truncated (s : State) (a : Nat) (k : U16 → Out) (h : s.dnsReadable a 2 = false) :
    drd16 s a k = .next (s.raised .truncated a) := if_neg (by simp [h])

/-- Everything a `drd16` can answer as a next state. -/
theorem drd16_next (s : State) (a : Nat) (k : U16 → Out) (t : State) (h : drd16 s a k = .next t) :
    (s.dnsReadable a 2 = true ∧ k (s.u16 a) = .next t) ∨ (s.dnsReadable a 2 = false ∧ t = s.raised .truncated a) := by
  by_cases hr : s.dnsReadable a 2 = true
  · exact .inl ⟨hr, by rw [← h, drd16_ok s a k hr]⟩
  · have hr' : s.dnsReadable a 2 = false := by simpa using hr
    rw [drd16_truncated s a k hr'] at h
    exact .inr ⟨hr', by injection h with h; exact h.symm⟩

/-- A `drd32` inside the bounds hands on the value. -/
theorem drd32_ok (s : State) (a : Nat) (k : U32 → Out) (h : s.dnsReadable a 4 = true) :
    drd32 s a k = k (s.u32 a) := if_pos h

/-- A `drd32` outside the bounds raises `TRUNCATED` at its first byte. -/
theorem drd32_truncated (s : State) (a : Nat) (k : U32 → Out) (h : s.dnsReadable a 4 = false) :
    drd32 s a k = .next (s.raised .truncated a) := if_neg (by simp [h])

/-- Everything a `drd32` can answer as a next state. -/
theorem drd32_next (s : State) (a : Nat) (k : U32 → Out) (t : State) (h : drd32 s a k = .next t) :
    (s.dnsReadable a 4 = true ∧ k (s.u32 a) = .next t) ∨ (s.dnsReadable a 4 = false ∧ t = s.raised .truncated a) := by
  by_cases hr : s.dnsReadable a 4 = true
  · exact .inl ⟨hr, by rw [← h, drd32_ok s a k hr]⟩
  · have hr' : s.dnsReadable a 4 = false := by simpa using hr
    rw [drd32_truncated s a k hr'] at h
    exact .inr ⟨hr', by injection h with h; exact h.symm⟩

/-- A `dbytes` inside the window and the buffer hands on the bytes (R367). -/
theorem dbytes_ok (s : State) (a n : Nat) (k : Bytes → Out) (h : a + n ≤ s.ctx.dnsend)
    (h' : s.readable a n = true) : dbytes s a n k = k (s.bytes a n) := by
  simp only [dbytes, if_pos h]; exact rdBytes_ok s a n k h'

/-- A `dbytes` past the window or past `B_len` raises `TRUNCATED` at its first byte (R367). -/
theorem dbytes_truncated (s : State) (a n : Nat) (k : Bytes → Out)
    (h : s.ctx.dnsend < a + n ∨ s.readable a n = false) :
    dbytes s a n k = .next (s.raised .truncated a) := by
  simp only [dbytes]
  split
  · exact rdBytes_truncated _ _ _ _ (h.resolve_left (by omega))
  · rfl

/-- Everything a `dbytes` can answer as a next state. -/
theorem dbytes_next (s : State) (a n : Nat) (k : Bytes → Out) (t : State)
    (h : dbytes s a n k = .next t) :
    (a + n ≤ s.ctx.dnsend ∧ s.readable a n = true ∧ k (s.bytes a n) = .next t) ∨
    (¬(a + n ≤ s.ctx.dnsend ∧ s.readable a n = true) ∧ t = s.raised .truncated a) := by
  by_cases hw : a + n ≤ s.ctx.dnsend
  · simp only [dbytes, if_pos hw] at h
    rcases rdBytes_next s a n k t h with ⟨hr, hk⟩ | ⟨hr, ht⟩
    · exact .inl ⟨hw, hr, hk⟩
    · exact .inr ⟨by simp [hr], ht⟩
  · simp only [dbytes, if_neg hw] at h
    exact .inr ⟨by simp [hw], by injection h with h; exact h.symm⟩

/-- A shorter range at the same or a later offset is readable when the longer one is (R84). -/
theorem readable_sub (s : State) {a n a' n' : Nat} (h : s.readable a n = true)
    (h' : a' + n' ≤ a + n) : s.readable a' n' = true := by
  simp only [State.readable, decide_eq_true_eq] at h ⊢; omega

/-! ## Entering a header -/

/-- Below the depth limit, entering goes on in the entered state (R176). -/
theorem enter_ok (s : State) (o : Nat) (k : State → Out)
    (h : Config.tooDeep s.cfg (s.ctx.depth + 1) = false) : enter s o k = k (s.entered o) :=
  if_neg (by simp [h])

/-- Past the depth limit, entering raises `DEPTH_LIMIT` at the header being entered (R474). -/
theorem enter_deep (s : State) (o : Nat) (k : State → Out)
    (h : Config.tooDeep s.cfg (s.ctx.depth + 1) = true) :
    enter s o k = .next ((s.entered o).raised .depthLimit o) := if_pos h

/-- Everything entering a header can answer as a next state. -/
theorem enter_next (s : State) (o : Nat) (k : State → Out) (t : State) (h : enter s o k = .next t) :
    (Config.tooDeep s.cfg (s.ctx.depth + 1) = false ∧ k (s.entered o) = .next t) ∨
    (Config.tooDeep s.cfg (s.ctx.depth + 1) = true ∧ t = (s.entered o).raised .depthLimit o) := by
  by_cases hd : Config.tooDeep s.cfg (s.ctx.depth + 1) = true
  · rw [enter_deep s o k hd] at h
    exact .inr ⟨hd, by injection h with h; exact h.symm⟩
  · have hd' : Config.tooDeep s.cfg (s.ctx.depth + 1) = false := by simpa using hd
    exact .inl ⟨hd', by rw [← h, enter_ok s o k hd']⟩

/-- An unbounded depth is never too deep (R176). -/
theorem tooDeep_unbounded (cfg : Config) (n : Nat) (h : cfg.maxLayerDepth = none) :
    Config.tooDeep cfg n = false := by simp [Config.tooDeep, h]

/-! ## TCP options -/

/-- Everything the length byte of an option can answer as a next state (R304). -/
theorem optLen_next (s : State) (k : Byte → Out) (t : State) (h : optLen s k = .next t) :
    (s.work.cur + 2 ≤ s.ctx.optend ∧ s.readable (s.work.cur + 1) 1 = true
        ∧ k (s.u8 (s.work.cur + 1)) = .next t) ∨
    (s.work.cur + 2 ≤ s.ctx.optend ∧ s.readable (s.work.cur + 1) 1 = false
        ∧ t = s.raised .truncated (s.work.cur + 1)) ∨
    (s.ctx.optend < s.work.cur + 2 ∧ t = s.raised .tcpOptionBadLength s.work.cur) := by
  by_cases hw : s.work.cur + 2 ≤ s.ctx.optend
  · simp only [optLen, if_pos hw] at h
    rcases rd8_next s _ k t h with ⟨hr, hk⟩ | ⟨hr, ht⟩
    · exact .inl ⟨hw, hr, hk⟩
    · exact .inr (.inl ⟨hw, hr, ht⟩)
  · simp only [optLen, if_neg hw] at h
    exact .inr (.inr ⟨by omega, by injection h with h; exact h.symm⟩)

/-- Everything the check that an option fits can answer as a next state (R304). -/
theorem fits_next (s : State) (l : Nat) (k : Out) (t : State) (h : fits s l k = .next t) :
    (s.work.cur + l ≤ s.ctx.optend ∧ k = .next t) ∨
    (s.ctx.optend < s.work.cur + l ∧ t = s.raised .tcpOptionBadLength s.work.cur) := by
  by_cases hw : s.work.cur + l ≤ s.ctx.optend
  · simp only [fits, if_pos hw] at h
    exact .inl ⟨hw, h⟩
  · simp only [fits, if_neg hw] at h
    exact .inr ⟨by omega, by injection h with h; exact h.symm⟩

/-- Everything an option of fixed size can answer as a next state (R297 to R301). -/
theorem optFixed_next (s : State) (size : Byte) (k : Out) (t : State)
    (h : optFixed s size k = .next t) :
    (s.work.cur + 2 ≤ s.ctx.optend ∧ s.readable (s.work.cur + 1) 1 = true
        ∧ s.u8 (s.work.cur + 1) = size ∧ k = .next t) ∨
    (t = s.raised .truncated (s.work.cur + 1)) ∨
    (t = s.raised .tcpOptionBadLength s.work.cur) := by
  rcases optLen_next s _ t h with ⟨hw, hr, hk⟩ | ⟨_, _, ht⟩ | ⟨_, ht⟩
  · by_cases he : s.u8 (s.work.cur + 1) = size
    · rw [if_neg (by simp [he])] at hk
      exact .inl ⟨hw, hr, he, hk⟩
    · rw [if_pos he] at hk
      exact .inr (.inr (by injection hk with hk; exact hk.symm))
  · exact .inr (.inl ht)
  · exact .inr (.inr ht)

/-! ## Delivery -/

/-- A finished protocol payload is delivered through the headers that await it (R175). -/
theorem deliverProto_some (s : State) (p : ProtoPayload) (h : NetHdr) (hn : s.work.net = some h) :
    deliverProto s p = .next (s.respond (h.wrap (wrapInner s.work.inner p))) := by
  simp [deliverProto, hn]

/-! ## The tracker -/

/-- A row of `TCPCLASS` commits the flow's step (R400, R405). -/
theorem runSegment_some (c : Classes) (s : State) (o : Observation) (h : s.obs = some o) :
    runSegment c s = .next (s.commit o (flowStep s.cfg.seqWidth c o.flow o.seg)) := by
  simp [runSegment, h]

@[simp] theorem State.commit_obs (s : State) (o : Observation) (r : FlowStep) :
    (s.commit o r).obs = none := rfl

@[simp] theorem State.commit_mode (s : State) (o : Observation) (r : FlowStep) :
    (s.commit o r).mode = .idle := rfl

@[simp] theorem State.commit_observed (s : State) (o : Observation) (r : FlowStep) :
    (s.commit o r).observed = s.observed ++ [o.out ++ r.sigs] := rfl

/-- The value put at a key is found there, whatever the order. -/
theorem mapFind_insert_same {κ ν : Type} [DecidableEq κ] (lt : κ → κ → Bool) (l : List (κ × ν))
    (k : κ) (v : ν) : mapFind (mapInsert lt l k v) k = some v := by
  induction l with
  | nil => simp [mapInsert, mapFind]
  | cons e rest ih =>
    obtain ⟨x, w⟩ := e
    simp only [mapInsert]
    split
    · simp [mapFind]
    · split
      · simp [mapFind]
      · next hne _ => simp only [mapFind, if_neg hne, ih]

/-- Putting a value at a key leaves every other key alone. -/
theorem mapFind_insert_other {κ ν : Type} [DecidableEq κ] (lt : κ → κ → Bool) (l : List (κ × ν))
    (k : κ) (v : ν) {c : κ} (h : c ≠ k) : mapFind (mapInsert lt l k v) c = mapFind l c := by
  induction l with
  | nil => simp [mapInsert, mapFind, Ne.symm h]
  | cons e rest ih =>
    obtain ⟨x, w⟩ := e
    simp only [mapInsert]
    split
    · next hx => subst hx; simp [mapFind, Ne.symm h]
    · split
      · simp [mapFind, Ne.symm h]
      · simp only [mapFind, ih]

/-- Removing a key leaves every other key alone. -/
theorem mapFind_erase_other {κ ν : Type} [DecidableEq κ] (l : List (κ × ν)) (k : κ) {c : κ}
    (h : c ≠ k) : mapFind (mapErase l k) c = mapFind l c := by
  induction l with
  | nil => rfl
  | cons e rest ih =>
    obtain ⟨x, w⟩ := e
    simp only [mapErase]
    split
    · next hx => subst hx; simp [mapFind, Ne.symm h]
    · simp only [mapFind, ih]

/-- Recording a segment changes the three byte counters and nothing else (R424). -/
theorem record_maps (c : DirectionalCounters) (s : Segment) :
    (record c s).packets = c.packets ∧ (record c s).acks = c.acks ∧ (record c s).retrans = c.retrans
      ∧ (record c s).isn = c.isn ∧ (record c s).windowScale = c.windowScale := ⟨rfl, rfl, rfl, rfl, rfl⟩

end Sys2Proof.Machine
end

