-- ==== Sys2Proof/Laws/PerInstr.lean ====
section
/-! SUPPORT. The per-instruction family `RowNamed`: every instruction is a row of the opcode table, with
the row's mnemonic, and is encoded in the row's table (R133 to R146). -/

namespace Sys2Proof.Laws.RowNamed

/-- The instruction has a row of its mnemonic, and its selector names that row's table. -/
def Statement (i : Instr) : Prop :=
  ∃ r ∈ opcodeRows, r.mnemonic = i.mnemonic ∧ ∀ cfg : Config, (encode cfg i).table = r.table

theorem ltEthernet : Statement .ltEthernet :=
  ⟨⟨.link, "LT_ETHERNET", 0x7, 0x0⟩, by decide, rfl, fun _ => rfl⟩

theorem ltNull : Statement .ltNull :=
  ⟨⟨.link, "LT_NULL", 0x7, 0x1⟩, by decide, rfl, fun _ => rfl⟩

theorem ltRawIpv4 : Statement .ltRawIpv4 :=
  ⟨⟨.link, "LT_RAW_IPV4", 0x7, 0x2⟩, by decide, rfl, fun _ => rfl⟩

theorem ltLinuxSll : Statement .ltLinuxSll :=
  ⟨⟨.link, "LT_LINUX_SLL", 0x7, 0x3⟩, by decide, rfl, fun _ => rfl⟩

theorem ltLlc : Statement .ltLlc :=
  ⟨⟨.link, "LT_LLC", 0x7, 0x4⟩, by decide, rfl, fun _ => rfl⟩

theorem ltOther (code : BitVec 3) : Statement (.ltOther code) :=
  ⟨⟨.link, "LT_OTHER", 0x0, 0x0⟩, by decide, rfl, fun _ => rfl⟩

theorem etIpv4 : Statement .etIpv4 :=
  ⟨⟨.ethertype, "ET_IPV4", 0xFFFF, 0x0800⟩, by decide, rfl, fun _ => rfl⟩

theorem etArp : Statement .etArp :=
  ⟨⟨.ethertype, "ET_ARP", 0xFFFF, 0x0806⟩, by decide, rfl, fun _ => rfl⟩

theorem etIpv6 : Statement .etIpv6 :=
  ⟨⟨.ethertype, "ET_IPV6", 0xFFFF, 0x86DD⟩, by decide, rfl, fun _ => rfl⟩

theorem etLenLo (code : BitVec 16) : Statement (.etLenLo code) :=
  ⟨⟨.ethertype, "ET_LEN_LO", 0xFC00, 0x0000⟩, by decide, rfl, fun _ => rfl⟩

theorem etLenHi (code : BitVec 16) : Statement (.etLenHi code) :=
  ⟨⟨.ethertype, "ET_LEN_HI", 0xFE00, 0x0400⟩, by decide, rfl, fun _ => rfl⟩

theorem etUnknown (code : BitVec 16) : Statement (.etUnknown code) :=
  ⟨⟨.ethertype, "ET_UNKNOWN", 0x0000, 0x0000⟩, by decide, rfl, fun _ => rfl⟩

theorem nfInet : Statement .nfInet :=
  ⟨⟨.nullfam, "NF_INET", 0xFF, 0x02⟩, by decide, rfl, fun _ => rfl⟩

theorem nfInet6_24 : Statement .nfInet6_24 :=
  ⟨⟨.nullfam, "NF_INET6_24", 0xFF, 0x18⟩, by decide, rfl, fun _ => rfl⟩

theorem nfInet6_28 : Statement .nfInet6_28 :=
  ⟨⟨.nullfam, "NF_INET6_28", 0xFF, 0x1C⟩, by decide, rfl, fun _ => rfl⟩

theorem nfInet6_30 : Statement .nfInet6_30 :=
  ⟨⟨.nullfam, "NF_INET6_30", 0xFF, 0x1E⟩, by decide, rfl, fun _ => rfl⟩

theorem nfOther (family : BitVec 8) : Statement (.nfOther family) :=
  ⟨⟨.nullfam, "NF_OTHER", 0x00, 0x00⟩, by decide, rfl, fun _ => rfl⟩

theorem llcSnap : Statement .llcSnap :=
  ⟨⟨.llcsap, "LLC_SNAP", 0xFFFF, 0xAAAA⟩, by decide, rfl, fun _ => rfl⟩

theorem llcBasic : Statement .llcBasic :=
  ⟨⟨.llcsap, "LLC_BASIC", 0xFFFF, 0x0000⟩, by decide, rfl, fun _ => rfl⟩

theorem llcBad (pair : BitVec 16) : Statement (.llcBad pair) :=
  ⟨⟨.llcsap, "LLC_BAD", 0x0000, 0x0000⟩, by decide, rfl, fun _ => rfl⟩

theorem pExt0 : Statement .pExt0 :=
  ⟨⟨.ipproto, "P_EXT_0", 0xFF, 0x00⟩, by decide, rfl, fun _ => rfl⟩

theorem pIcmp : Statement .pIcmp :=
  ⟨⟨.ipproto, "P_ICMP", 0xFF, 0x01⟩, by decide, rfl, fun _ => rfl⟩

theorem pIgmp : Statement .pIgmp :=
  ⟨⟨.ipproto, "P_IGMP", 0xFF, 0x02⟩, by decide, rfl, fun _ => rfl⟩

theorem pIpv4 : Statement .pIpv4 :=
  ⟨⟨.ipproto, "P_IPV4", 0xFF, 0x04⟩, by decide, rfl, fun _ => rfl⟩

theorem pTcp : Statement .pTcp :=
  ⟨⟨.ipproto, "P_TCP", 0xFF, 0x06⟩, by decide, rfl, fun _ => rfl⟩

theorem pUdp : Statement .pUdp :=
  ⟨⟨.ipproto, "P_UDP", 0xFF, 0x11⟩, by decide, rfl, fun _ => rfl⟩

theorem pIpv6 : Statement .pIpv6 :=
  ⟨⟨.ipproto, "P_IPV6", 0xFF, 0x29⟩, by decide, rfl, fun _ => rfl⟩

theorem pExt43 : Statement .pExt43 :=
  ⟨⟨.ipproto, "P_EXT_43", 0xFF, 0x2B⟩, by decide, rfl, fun _ => rfl⟩

theorem pExt51 : Statement .pExt51 :=
  ⟨⟨.ipproto, "P_EXT_51", 0xFF, 0x33⟩, by decide, rfl, fun _ => rfl⟩

theorem pNoNext : Statement .pNoNext :=
  ⟨⟨.ipproto, "P_NONEXT", 0xFF, 0x3B⟩, by decide, rfl, fun _ => rfl⟩

theorem pExt60 : Statement .pExt60 :=
  ⟨⟨.ipproto, "P_EXT_60", 0xFF, 0x3C⟩, by decide, rfl, fun _ => rfl⟩

theorem pExt135 : Statement .pExt135 :=
  ⟨⟨.ipproto, "P_EXT_135", 0xFF, 0x87⟩, by decide, rfl, fun _ => rfl⟩

theorem pExt139 : Statement .pExt139 :=
  ⟨⟨.ipproto, "P_EXT_139", 0xFF, 0x8B⟩, by decide, rfl, fun _ => rfl⟩

theorem pExt140 : Statement .pExt140 :=
  ⟨⟨.ipproto, "P_EXT_140", 0xFF, 0x8C⟩, by decide, rfl, fun _ => rfl⟩

theorem pUnknown (protocol : BitVec 8) : Statement (.pUnknown protocol) :=
  ⟨⟨.ipproto, "P_UNKNOWN", 0x00, 0x00⟩, by decide, rfl, fun _ => rfl⟩

theorem optEol : Statement .optEol :=
  ⟨⟨.tcpopt, "OPT_EOL", 0xFF, 0x00⟩, by decide, rfl, fun _ => rfl⟩

theorem optNop : Statement .optNop :=
  ⟨⟨.tcpopt, "OPT_NOP", 0xFF, 0x01⟩, by decide, rfl, fun _ => rfl⟩

theorem optMss : Statement .optMss :=
  ⟨⟨.tcpopt, "OPT_MSS", 0xFF, 0x02⟩, by decide, rfl, fun _ => rfl⟩

theorem optWscale : Statement .optWscale :=
  ⟨⟨.tcpopt, "OPT_WSCALE", 0xFF, 0x03⟩, by decide, rfl, fun _ => rfl⟩

theorem optSackOk : Statement .optSackOk :=
  ⟨⟨.tcpopt, "OPT_SACKOK", 0xFF, 0x04⟩, by decide, rfl, fun _ => rfl⟩

theorem optSack : Statement .optSack :=
  ⟨⟨.tcpopt, "OPT_SACK", 0xFF, 0x05⟩, by decide, rfl, fun _ => rfl⟩

theorem optTs : Statement .optTs :=
  ⟨⟨.tcpopt, "OPT_TS", 0xFF, 0x08⟩, by decide, rfl, fun _ => rfl⟩

theorem optExp254 : Statement .optExp254 :=
  ⟨⟨.tcpopt, "OPT_EXP_254", 0xFF, 0xFE⟩, by decide, rfl, fun _ => rfl⟩

theorem optExp255 : Statement .optExp255 :=
  ⟨⟨.tcpopt, "OPT_EXP_255", 0xFF, 0xFF⟩, by decide, rfl, fun _ => rfl⟩

theorem optBad (kind : BitVec 8) : Statement (.optBad kind) :=
  ⟨⟨.tcpopt, "OPT_BAD", 0x00, 0x00⟩, by decide, rfl, fun _ => rfl⟩

theorem sack1 : Statement .sack1 :=
  ⟨⟨.sacklen, "SACK_1", 0xFF, 0x0A⟩, by decide, rfl, fun _ => rfl⟩

theorem sack2 : Statement .sack2 :=
  ⟨⟨.sacklen, "SACK_2", 0xFF, 0x12⟩, by decide, rfl, fun _ => rfl⟩

theorem sack3 : Statement .sack3 :=
  ⟨⟨.sacklen, "SACK_3", 0xFF, 0x1A⟩, by decide, rfl, fun _ => rfl⟩

theorem sack4 : Statement .sack4 :=
  ⟨⟨.sacklen, "SACK_4", 0xFF, 0x22⟩, by decide, rfl, fun _ => rfl⟩

theorem sackBad (length : BitVec 8) : Statement (.sackBad length) :=
  ⟨⟨.sacklen, "SACK_BAD", 0x00, 0x00⟩, by decide, rfl, fun _ => rfl⟩

theorem dnsTerm : Statement .dnsTerm :=
  ⟨⟨.dnslabel, "DNS_TERM", 0xFF, 0x00⟩, by decide, rfl, fun _ => rfl⟩

theorem dnsLabel (length : BitVec 6) : Statement (.dnsLabel length) :=
  ⟨⟨.dnslabel, "DNS_LABEL", 0xC0, 0x00⟩, by decide, rfl, fun _ => rfl⟩

theorem dnsPtr (high : BitVec 6) : Statement (.dnsPtr high) :=
  ⟨⟨.dnslabel, "DNS_PTR", 0xC0, 0xC0⟩, by decide, rfl, fun _ => rfl⟩

theorem dnsRsv01 (low : BitVec 6) : Statement (.dnsRsv01 low) :=
  ⟨⟨.dnslabel, "DNS_RSV_01", 0xC0, 0x40⟩, by decide, rfl, fun _ => rfl⟩

theorem dnsRsv10 (low : BitVec 6) : Statement (.dnsRsv10 low) :=
  ⟨⟨.dnslabel, "DNS_RSV_10", 0xC0, 0x80⟩, by decide, rfl, fun _ => rfl⟩

theorem rrAIn : Statement .rrAIn :=
  ⟨⟨.dnsrr, "RR_A_IN", 0xFFFFFFFF, 0x00010001⟩, by decide, rfl, fun _ => rfl⟩

theorem rrNsIn : Statement .rrNsIn :=
  ⟨⟨.dnsrr, "RR_NS_IN", 0xFFFFFFFF, 0x00020001⟩, by decide, rfl, fun _ => rfl⟩

theorem rrAaaaIn : Statement .rrAaaaIn :=
  ⟨⟨.dnsrr, "RR_AAAA_IN", 0xFFFFFFFF, 0x001C0001⟩, by decide, rfl, fun _ => rfl⟩

theorem rrOther (code : BitVec 32) : Statement (.rrOther code) :=
  ⟨⟨.dnsrr, "RR_OTHER", 0x00000000, 0x00000000⟩, by decide, rfl, fun _ => rfl⟩

theorem arpRequest : Statement .arpRequest :=
  ⟨⟨.arpop, "ARP_REQUEST", 0xFFFF, 0x0001⟩, by decide, rfl, fun _ => rfl⟩

theorem arpReply : Statement .arpReply :=
  ⟨⟨.arpop, "ARP_REPLY", 0xFFFF, 0x0002⟩, by decide, rfl, fun _ => rfl⟩

theorem arpUnknown (operation : BitVec 16) : Statement (.arpUnknown operation) :=
  ⟨⟨.arpop, "ARP_UNKNOWN", 0x0000, 0x0000⟩, by decide, rfl, fun _ => rfl⟩

theorem igmpQuery : Statement .igmpQuery :=
  ⟨⟨.igmptype, "IGMP_QUERY", 0xFF, 0x11⟩, by decide, rfl, fun _ => rfl⟩

theorem igmpV1Report : Statement .igmpV1Report :=
  ⟨⟨.igmptype, "IGMP_V1_REPORT", 0xFF, 0x12⟩, by decide, rfl, fun _ => rfl⟩

theorem igmpV2Report : Statement .igmpV2Report :=
  ⟨⟨.igmptype, "IGMP_V2_REPORT", 0xFF, 0x16⟩, by decide, rfl, fun _ => rfl⟩

theorem igmpLeave : Statement .igmpLeave :=
  ⟨⟨.igmptype, "IGMP_LEAVE", 0xFF, 0x17⟩, by decide, rfl, fun _ => rfl⟩

theorem igmpV3Report : Statement .igmpV3Report :=
  ⟨⟨.igmptype, "IGMP_V3_REPORT", 0xFF, 0x22⟩, by decide, rfl, fun _ => rfl⟩

theorem igmpOther (code : BitVec 8) : Statement (.igmpOther code) :=
  ⟨⟨.igmptype, "IGMP_OTHER", 0x00, 0x00⟩, by decide, rfl, fun _ => rfl⟩

theorem udpDnsSrc (dstPort : BitVec 16) : Statement (.udpDnsSrc dstPort) :=
  ⟨⟨.udpport, "UDP_DNS_SRC", 0xFFFF0000, 0x00350000⟩, by decide, rfl, fun _ => rfl⟩

theorem udpDnsDst (srcPort : BitVec 16) : Statement (.udpDnsDst srcPort) :=
  ⟨⟨.udpport, "UDP_DNS_DST", 0x0000FFFF, 0x00000035⟩, by decide, rfl, fun _ => rfl⟩

theorem udpPlain (srcPort dstPort : BitVec 16) : Statement (.udpPlain srcPort dstPort) :=
  ⟨⟨.udpport, "UDP_PLAIN", 0x00000000, 0x00000000⟩, by decide, rfl, fun _ => rfl⟩

theorem segSynNoAck (flags : BitVec 9) : Statement (.segSynNoAck flags) :=
  ⟨⟨.tcpclass, "SEG_SYN_NOACK", 0x012, 0x002⟩, by decide, rfl, fun _ => rfl⟩

theorem segSynAck (flags : BitVec 9) : Statement (.segSynAck flags) :=
  ⟨⟨.tcpclass, "SEG_SYN_ACK", 0x012, 0x012⟩, by decide, rfl, fun _ => rfl⟩

theorem segAck (flags : BitVec 9) : Statement (.segAck flags) :=
  ⟨⟨.tcpclass, "SEG_ACK", 0x010, 0x010⟩, by decide, rfl, fun _ => rfl⟩

theorem segFin (flags : BitVec 9) : Statement (.segFin flags) :=
  ⟨⟨.tcpclass, "SEG_FIN", 0x001, 0x001⟩, by decide, rfl, fun _ => rfl⟩

end Sys2Proof.Laws.RowNamed
end

