-- ==== Sys2Proof/Laws/State.lean ====
section
/-! SUPPORT. The fields of the state after each named update: one lemma for each field and update, true by
unfolding, so that no later proof unfolds a record update. -/

namespace Sys2Proof.Machine

/-! ## `setMode` -/

@[simp] theorem State.setMode_cfg (s : State) (m : Mode) :
    (s.setMode m).cfg = s.cfg := rfl

@[simp] theorem State.setMode_mode (s : State) (m : Mode) :
    (s.setMode m).mode = m := rfl

@[simp] theorem State.setMode_calls (s : State) (m : Mode) :
    (s.setMode m).calls = s.calls := rfl

@[simp] theorem State.setMode_responses (s : State) (m : Mode) :
    (s.setMode m).responses = s.responses := rfl

@[simp] theorem State.setMode_observed (s : State) (m : Mode) :
    (s.setMode m).observed = s.observed := rfl

@[simp] theorem State.setMode_req (s : State) (m : Mode) :
    (s.setMode m).req = s.req := rfl

@[simp] theorem State.setMode_ctx (s : State) (m : Mode) :
    (s.setMode m).ctx = s.ctx := rfl

@[simp] theorem State.setMode_work (s : State) (m : Mode) :
    (s.setMode m).work = s.work := rfl

@[simp] theorem State.setMode_registry (s : State) (m : Mode) :
    (s.setMode m).registry = s.registry := rfl

@[simp] theorem State.setMode_obs (s : State) (m : Mode) :
    (s.setMode m).obs = s.obs := rfl

/-! ## `setCtx` -/

@[simp] theorem State.setCtx_cfg (s : State) (c : Ctx) :
    (s.setCtx c).cfg = s.cfg := rfl

@[simp] theorem State.setCtx_mode (s : State) (c : Ctx) :
    (s.setCtx c).mode = s.mode := rfl

@[simp] theorem State.setCtx_calls (s : State) (c : Ctx) :
    (s.setCtx c).calls = s.calls := rfl

@[simp] theorem State.setCtx_responses (s : State) (c : Ctx) :
    (s.setCtx c).responses = s.responses := rfl

@[simp] theorem State.setCtx_observed (s : State) (c : Ctx) :
    (s.setCtx c).observed = s.observed := rfl

@[simp] theorem State.setCtx_req (s : State) (c : Ctx) :
    (s.setCtx c).req = s.req := rfl

@[simp] theorem State.setCtx_ctx (s : State) (c : Ctx) :
    (s.setCtx c).ctx = c := rfl

@[simp] theorem State.setCtx_work (s : State) (c : Ctx) :
    (s.setCtx c).work = s.work := rfl

@[simp] theorem State.setCtx_registry (s : State) (c : Ctx) :
    (s.setCtx c).registry = s.registry := rfl

@[simp] theorem State.setCtx_obs (s : State) (c : Ctx) :
    (s.setCtx c).obs = s.obs := rfl

/-! ## `setWork` -/

@[simp] theorem State.setWork_cfg (s : State) (w : Work) :
    (s.setWork w).cfg = s.cfg := rfl

@[simp] theorem State.setWork_mode (s : State) (w : Work) :
    (s.setWork w).mode = s.mode := rfl

@[simp] theorem State.setWork_calls (s : State) (w : Work) :
    (s.setWork w).calls = s.calls := rfl

@[simp] theorem State.setWork_responses (s : State) (w : Work) :
    (s.setWork w).responses = s.responses := rfl

@[simp] theorem State.setWork_observed (s : State) (w : Work) :
    (s.setWork w).observed = s.observed := rfl

@[simp] theorem State.setWork_req (s : State) (w : Work) :
    (s.setWork w).req = s.req := rfl

@[simp] theorem State.setWork_ctx (s : State) (w : Work) :
    (s.setWork w).ctx = s.ctx := rfl

@[simp] theorem State.setWork_work (s : State) (w : Work) :
    (s.setWork w).work = w := rfl

@[simp] theorem State.setWork_registry (s : State) (w : Work) :
    (s.setWork w).registry = s.registry := rfl

@[simp] theorem State.setWork_obs (s : State) (w : Work) :
    (s.setWork w).obs = s.obs := rfl

/-! ## `addDiag` -/

@[simp] theorem State.addDiag_cfg (s : State) (d : Diag) :
    (s.addDiag d).cfg = s.cfg := rfl

@[simp] theorem State.addDiag_mode (s : State) (d : Diag) :
    (s.addDiag d).mode = s.mode := rfl

@[simp] theorem State.addDiag_calls (s : State) (d : Diag) :
    (s.addDiag d).calls = s.calls := rfl

@[simp] theorem State.addDiag_responses (s : State) (d : Diag) :
    (s.addDiag d).responses = s.responses := rfl

@[simp] theorem State.addDiag_observed (s : State) (d : Diag) :
    (s.addDiag d).observed = s.observed := rfl

@[simp] theorem State.addDiag_req (s : State) (d : Diag) :
    (s.addDiag d).req = s.req := rfl

@[simp] theorem State.addDiag_ctx (s : State) (d : Diag) :
    (s.addDiag d).ctx = { s.ctx with diag := s.ctx.diag ++ [d] } := rfl

@[simp] theorem State.addDiag_work (s : State) (d : Diag) :
    (s.addDiag d).work = s.work := rfl

@[simp] theorem State.addDiag_registry (s : State) (d : Diag) :
    (s.addDiag d).registry = s.registry := rfl

@[simp] theorem State.addDiag_obs (s : State) (d : Diag) :
    (s.addDiag d).obs = s.obs := rfl

/-! ## `entered` -/

@[simp] theorem State.entered_cfg (s : State) (o : Nat) :
    (s.entered o).cfg = s.cfg := rfl

@[simp] theorem State.entered_mode (s : State) (o : Nat) :
    (s.entered o).mode = s.mode := rfl

@[simp] theorem State.entered_calls (s : State) (o : Nat) :
    (s.entered o).calls = s.calls := rfl

@[simp] theorem State.entered_responses (s : State) (o : Nat) :
    (s.entered o).responses = s.responses := rfl

@[simp] theorem State.entered_observed (s : State) (o : Nat) :
    (s.entered o).observed = s.observed := rfl

@[simp] theorem State.entered_req (s : State) (o : Nat) :
    (s.entered o).req = s.req := rfl

@[simp] theorem State.entered_ctx (s : State) (o : Nat) :
    (s.entered o).ctx = { s.ctx with off := o, depth := s.ctx.depth + 1 } := rfl

@[simp] theorem State.entered_work (s : State) (o : Nat) :
    (s.entered o).work = s.work := rfl

@[simp] theorem State.entered_registry (s : State) (o : Nat) :
    (s.entered o).registry = s.registry := rfl

@[simp] theorem State.entered_obs (s : State) (o : Nat) :
    (s.entered o).obs = s.obs := rfl

/-! ## `jump` -/

@[simp] theorem State.jump_cfg (s : State) (sel : Selector) (n : Nat) :
    (s.jump sel n).cfg = s.cfg := rfl

@[simp] theorem State.jump_mode (s : State) (sel : Selector) (n : Nat) :
    (s.jump sel n).mode = .row := rfl

@[simp] theorem State.jump_calls (s : State) (sel : Selector) (n : Nat) :
    (s.jump sel n).calls = s.calls := rfl

@[simp] theorem State.jump_responses (s : State) (sel : Selector) (n : Nat) :
    (s.jump sel n).responses = s.responses := rfl

@[simp] theorem State.jump_observed (s : State) (sel : Selector) (n : Nat) :
    (s.jump sel n).observed = s.observed := rfl

@[simp] theorem State.jump_req (s : State) (sel : Selector) (n : Nat) :
    (s.jump sel n).req = s.req := rfl

@[simp] theorem State.jump_ctx (s : State) (sel : Selector) (n : Nat) :
    (s.jump sel n).ctx = { s.ctx with sel := sel } := rfl

@[simp] theorem State.jump_work (s : State) (sel : Selector) (n : Nat) :
    (s.jump sel n).work = { s.work with next := n } := rfl

@[simp] theorem State.jump_registry (s : State) (sel : Selector) (n : Nat) :
    (s.jump sel n).registry = s.registry := rfl

@[simp] theorem State.jump_obs (s : State) (sel : Selector) (n : Nat) :
    (s.jump sel n).obs = s.obs := rfl

/-! ## `look` -/

@[simp] theorem State.look_cfg (s : State) (sel : Selector) :
    (s.look sel).cfg = s.cfg := rfl

@[simp] theorem State.look_mode (s : State) (sel : Selector) :
    (s.look sel).mode = .row := rfl

@[simp] theorem State.look_calls (s : State) (sel : Selector) :
    (s.look sel).calls = s.calls := rfl

@[simp] theorem State.look_responses (s : State) (sel : Selector) :
    (s.look sel).responses = s.responses := rfl

@[simp] theorem State.look_observed (s : State) (sel : Selector) :
    (s.look sel).observed = s.observed := rfl

@[simp] theorem State.look_req (s : State) (sel : Selector) :
    (s.look sel).req = s.req := rfl

@[simp] theorem State.look_ctx (s : State) (sel : Selector) :
    (s.look sel).ctx = { s.ctx with sel := sel } := rfl

@[simp] theorem State.look_work (s : State) (sel : Selector) :
    (s.look sel).work = s.work := rfl

@[simp] theorem State.look_registry (s : State) (sel : Selector) :
    (s.look sel).registry = s.registry := rfl

@[simp] theorem State.look_obs (s : State) (sel : Selector) :
    (s.look sel).obs = s.obs := rfl

/-! ## `dispatchEther` -/

@[simp] theorem State.dispatchEther_cfg (s : State) (t : U16) (n : Nat) :
    (s.dispatchEther t n).cfg = s.cfg := rfl

@[simp] theorem State.dispatchEther_mode (s : State) (t : U16) (n : Nat) :
    (s.dispatchEther t n).mode = .row := rfl

@[simp] theorem State.dispatchEther_calls (s : State) (t : U16) (n : Nat) :
    (s.dispatchEther t n).calls = s.calls := rfl

@[simp] theorem State.dispatchEther_responses (s : State) (t : U16) (n : Nat) :
    (s.dispatchEther t n).responses = s.responses := rfl

@[simp] theorem State.dispatchEther_observed (s : State) (t : U16) (n : Nat) :
    (s.dispatchEther t n).observed = s.observed := rfl

@[simp] theorem State.dispatchEther_req (s : State) (t : U16) (n : Nat) :
    (s.dispatchEther t n).req = s.req := rfl

@[simp] theorem State.dispatchEther_ctx (s : State) (t : U16) (n : Nat) :
    (s.dispatchEther t n).ctx = { s.ctx with sel := .ethertype t } := rfl

@[simp] theorem State.dispatchEther_work (s : State) (t : U16) (n : Nat) :
    (s.dispatchEther t n).work = { s.work with next := n } := rfl

@[simp] theorem State.dispatchEther_registry (s : State) (t : U16) (n : Nat) :
    (s.dispatchEther t n).registry = s.registry := rfl

@[simp] theorem State.dispatchEther_obs (s : State) (t : U16) (n : Nat) :
    (s.dispatchEther t n).obs = s.obs := rfl

/-! ## `dispatchProto` -/

@[simp] theorem State.dispatchProto_cfg (s : State) (p : Byte) (n : Nat) (r : Int) :
    (s.dispatchProto p n r).cfg = s.cfg := rfl

@[simp] theorem State.dispatchProto_mode (s : State) (p : Byte) (n : Nat) (r : Int) :
    (s.dispatchProto p n r).mode = .row := rfl

@[simp] theorem State.dispatchProto_calls (s : State) (p : Byte) (n : Nat) (r : Int) :
    (s.dispatchProto p n r).calls = s.calls := rfl

@[simp] theorem State.dispatchProto_responses (s : State) (p : Byte) (n : Nat) (r : Int) :
    (s.dispatchProto p n r).responses = s.responses := rfl

@[simp] theorem State.dispatchProto_observed (s : State) (p : Byte) (n : Nat) (r : Int) :
    (s.dispatchProto p n r).observed = s.observed := rfl

@[simp] theorem State.dispatchProto_req (s : State) (p : Byte) (n : Nat) (r : Int) :
    (s.dispatchProto p n r).req = s.req := rfl

@[simp] theorem State.dispatchProto_ctx (s : State) (p : Byte) (n : Nat) (r : Int) :
    (s.dispatchProto p n r).ctx = { s.ctx with rem := r, sel := .ipproto p } := rfl

@[simp] theorem State.dispatchProto_work (s : State) (p : Byte) (n : Nat) (r : Int) :
    (s.dispatchProto p n r).work = { s.work with next := n } := rfl

@[simp] theorem State.dispatchProto_registry (s : State) (p : Byte) (n : Nat) (r : Int) :
    (s.dispatchProto p n r).registry = s.registry := rfl

@[simp] theorem State.dispatchProto_obs (s : State) (p : Byte) (n : Nat) (r : Int) :
    (s.dispatchProto p n r).obs = s.obs := rfl

/-! ## `setLink` -/

@[simp] theorem State.setLink_cfg (s : State) (h : LinkHdr) :
    (s.setLink h).cfg = s.cfg := rfl

@[simp] theorem State.setLink_mode (s : State) (h : LinkHdr) :
    (s.setLink h).mode = s.mode := rfl

@[simp] theorem State.setLink_calls (s : State) (h : LinkHdr) :
    (s.setLink h).calls = s.calls := rfl

@[simp] theorem State.setLink_responses (s : State) (h : LinkHdr) :
    (s.setLink h).responses = s.responses := rfl

@[simp] theorem State.setLink_observed (s : State) (h : LinkHdr) :
    (s.setLink h).observed = s.observed := rfl

@[simp] theorem State.setLink_req (s : State) (h : LinkHdr) :
    (s.setLink h).req = s.req := rfl

@[simp] theorem State.setLink_ctx (s : State) (h : LinkHdr) :
    (s.setLink h).ctx = s.ctx := rfl

@[simp] theorem State.setLink_work (s : State) (h : LinkHdr) :
    (s.setLink h).work = { s.work with link := h } := rfl

@[simp] theorem State.setLink_registry (s : State) (h : LinkHdr) :
    (s.setLink h).registry = s.registry := rfl

@[simp] theorem State.setLink_obs (s : State) (h : LinkHdr) :
    (s.setLink h).obs = s.obs := rfl

/-! ## `pushNetIpv4` -/

@[simp] theorem State.pushNetIpv4_cfg (s : State) (h : Ipv4Hdr) :
    (s.pushNetIpv4 h).cfg = s.cfg := rfl

@[simp] theorem State.pushNetIpv4_mode (s : State) (h : Ipv4Hdr) :
    (s.pushNetIpv4 h).mode = s.mode := rfl

@[simp] theorem State.pushNetIpv4_calls (s : State) (h : Ipv4Hdr) :
    (s.pushNetIpv4 h).calls = s.calls := rfl

@[simp] theorem State.pushNetIpv4_responses (s : State) (h : Ipv4Hdr) :
    (s.pushNetIpv4 h).responses = s.responses := rfl

@[simp] theorem State.pushNetIpv4_observed (s : State) (h : Ipv4Hdr) :
    (s.pushNetIpv4 h).observed = s.observed := rfl

@[simp] theorem State.pushNetIpv4_req (s : State) (h : Ipv4Hdr) :
    (s.pushNetIpv4 h).req = s.req := rfl

@[simp] theorem State.pushNetIpv4_ctx (s : State) (h : Ipv4Hdr) :
    (s.pushNetIpv4 h).ctx = s.ctx := rfl

@[simp] theorem State.pushNetIpv4_work (s : State) (h : Ipv4Hdr) :
    (s.pushNetIpv4 h).work = { s.work with net := some (.ipv4 h), inner := [] } := rfl

@[simp] theorem State.pushNetIpv4_registry (s : State) (h : Ipv4Hdr) :
    (s.pushNetIpv4 h).registry = s.registry := rfl

@[simp] theorem State.pushNetIpv4_obs (s : State) (h : Ipv4Hdr) :
    (s.pushNetIpv4 h).obs = s.obs := rfl

/-! ## `pushNetIpv6` -/

@[simp] theorem State.pushNetIpv6_cfg (s : State) (h : Ipv6Hdr) :
    (s.pushNetIpv6 h).cfg = s.cfg := rfl

@[simp] theorem State.pushNetIpv6_mode (s : State) (h : Ipv6Hdr) :
    (s.pushNetIpv6 h).mode = s.mode := rfl

@[simp] theorem State.pushNetIpv6_calls (s : State) (h : Ipv6Hdr) :
    (s.pushNetIpv6 h).calls = s.calls := rfl

@[simp] theorem State.pushNetIpv6_responses (s : State) (h : Ipv6Hdr) :
    (s.pushNetIpv6 h).responses = s.responses := rfl

@[simp] theorem State.pushNetIpv6_observed (s : State) (h : Ipv6Hdr) :
    (s.pushNetIpv6 h).observed = s.observed := rfl

@[simp] theorem State.pushNetIpv6_req (s : State) (h : Ipv6Hdr) :
    (s.pushNetIpv6 h).req = s.req := rfl

@[simp] theorem State.pushNetIpv6_ctx (s : State) (h : Ipv6Hdr) :
    (s.pushNetIpv6 h).ctx = s.ctx := rfl

@[simp] theorem State.pushNetIpv6_work (s : State) (h : Ipv6Hdr) :
    (s.pushNetIpv6 h).work = { s.work with net := some (.ipv6 h), inner := [] } := rfl

@[simp] theorem State.pushNetIpv6_registry (s : State) (h : Ipv6Hdr) :
    (s.pushNetIpv6 h).registry = s.registry := rfl

@[simp] theorem State.pushNetIpv6_obs (s : State) (h : Ipv6Hdr) :
    (s.pushNetIpv6 h).obs = s.obs := rfl

/-! ## `pushInner` -/

@[simp] theorem State.pushInner_cfg (s : State) (h : ProtoHdr) :
    (s.pushInner h).cfg = s.cfg := rfl

@[simp] theorem State.pushInner_mode (s : State) (h : ProtoHdr) :
    (s.pushInner h).mode = s.mode := rfl

@[simp] theorem State.pushInner_calls (s : State) (h : ProtoHdr) :
    (s.pushInner h).calls = s.calls := rfl

@[simp] theorem State.pushInner_responses (s : State) (h : ProtoHdr) :
    (s.pushInner h).responses = s.responses := rfl

@[simp] theorem State.pushInner_observed (s : State) (h : ProtoHdr) :
    (s.pushInner h).observed = s.observed := rfl

@[simp] theorem State.pushInner_req (s : State) (h : ProtoHdr) :
    (s.pushInner h).req = s.req := rfl

@[simp] theorem State.pushInner_ctx (s : State) (h : ProtoHdr) :
    (s.pushInner h).ctx = s.ctx := rfl

@[simp] theorem State.pushInner_work (s : State) (h : ProtoHdr) :
    (s.pushInner h).work = { s.work with inner := h :: s.work.inner } := rfl

@[simp] theorem State.pushInner_registry (s : State) (h : ProtoHdr) :
    (s.pushInner h).registry = s.registry := rfl

@[simp] theorem State.pushInner_obs (s : State) (h : ProtoHdr) :
    (s.pushInner h).obs = s.obs := rfl

/-! ## `setDns` -/

@[simp] theorem State.setDns_cfg (s : State) (d : DnsWork) :
    (s.setDns d).cfg = s.cfg := rfl

@[simp] theorem State.setDns_mode (s : State) (d : DnsWork) :
    (s.setDns d).mode = s.mode := rfl

@[simp] theorem State.setDns_calls (s : State) (d : DnsWork) :
    (s.setDns d).calls = s.calls := rfl

@[simp] theorem State.setDns_responses (s : State) (d : DnsWork) :
    (s.setDns d).responses = s.responses := rfl

@[simp] theorem State.setDns_observed (s : State) (d : DnsWork) :
    (s.setDns d).observed = s.observed := rfl

@[simp] theorem State.setDns_req (s : State) (d : DnsWork) :
    (s.setDns d).req = s.req := rfl

@[simp] theorem State.setDns_ctx (s : State) (d : DnsWork) :
    (s.setDns d).ctx = s.ctx := rfl

@[simp] theorem State.setDns_work (s : State) (d : DnsWork) :
    (s.setDns d).work = { s.work with dns := d } := rfl

@[simp] theorem State.setDns_registry (s : State) (d : DnsWork) :
    (s.setDns d).registry = s.registry := rfl

@[simp] theorem State.setDns_obs (s : State) (d : DnsWork) :
    (s.setDns d).obs = s.obs := rfl

/-! ## `finishNet` -/

@[simp] theorem State.finishNet_cfg (s : State) (p : NetPayload) :
    (s.finishNet p).cfg = s.cfg := rfl

@[simp] theorem State.finishNet_mode (s : State) (p : NetPayload) :
    (s.finishNet p).mode = .deliverNet p := rfl

@[simp] theorem State.finishNet_calls (s : State) (p : NetPayload) :
    (s.finishNet p).calls = s.calls := rfl

@[simp] theorem State.finishNet_responses (s : State) (p : NetPayload) :
    (s.finishNet p).responses = s.responses := rfl

@[simp] theorem State.finishNet_observed (s : State) (p : NetPayload) :
    (s.finishNet p).observed = s.observed := rfl

@[simp] theorem State.finishNet_req (s : State) (p : NetPayload) :
    (s.finishNet p).req = s.req := rfl

@[simp] theorem State.finishNet_ctx (s : State) (p : NetPayload) :
    (s.finishNet p).ctx = s.ctx := rfl

@[simp] theorem State.finishNet_work (s : State) (p : NetPayload) :
    (s.finishNet p).work = s.work := rfl

@[simp] theorem State.finishNet_registry (s : State) (p : NetPayload) :
    (s.finishNet p).registry = s.registry := rfl

@[simp] theorem State.finishNet_obs (s : State) (p : NetPayload) :
    (s.finishNet p).obs = s.obs := rfl

/-! ## `finishProto` -/

@[simp] theorem State.finishProto_cfg (s : State) (p : ProtoPayload) :
    (s.finishProto p).cfg = s.cfg := rfl

@[simp] theorem State.finishProto_mode (s : State) (p : ProtoPayload) :
    (s.finishProto p).mode = .deliverProto p := rfl

@[simp] theorem State.finishProto_calls (s : State) (p : ProtoPayload) :
    (s.finishProto p).calls = s.calls := rfl

@[simp] theorem State.finishProto_responses (s : State) (p : ProtoPayload) :
    (s.finishProto p).responses = s.responses := rfl

@[simp] theorem State.finishProto_observed (s : State) (p : ProtoPayload) :
    (s.finishProto p).observed = s.observed := rfl

@[simp] theorem State.finishProto_req (s : State) (p : ProtoPayload) :
    (s.finishProto p).req = s.req := rfl

@[simp] theorem State.finishProto_ctx (s : State) (p : ProtoPayload) :
    (s.finishProto p).ctx = s.ctx := rfl

@[simp] theorem State.finishProto_work (s : State) (p : ProtoPayload) :
    (s.finishProto p).work = s.work := rfl

@[simp] theorem State.finishProto_registry (s : State) (p : ProtoPayload) :
    (s.finishProto p).registry = s.registry := rfl

@[simp] theorem State.finishProto_obs (s : State) (p : ProtoPayload) :
    (s.finishProto p).obs = s.obs := rfl

/-! ## `optionDone` -/

@[simp] theorem State.optionDone_cfg (s : State) (o : TcpOptions) (i : Nat) :
    (s.optionDone o i).cfg = s.cfg := rfl

@[simp] theorem State.optionDone_mode (s : State) (o : TcpOptions) (i : Nat) :
    (s.optionDone o i).mode = .options := rfl

@[simp] theorem State.optionDone_calls (s : State) (o : TcpOptions) (i : Nat) :
    (s.optionDone o i).calls = s.calls := rfl

@[simp] theorem State.optionDone_responses (s : State) (o : TcpOptions) (i : Nat) :
    (s.optionDone o i).responses = s.responses := rfl

@[simp] theorem State.optionDone_observed (s : State) (o : TcpOptions) (i : Nat) :
    (s.optionDone o i).observed = s.observed := rfl

@[simp] theorem State.optionDone_req (s : State) (o : TcpOptions) (i : Nat) :
    (s.optionDone o i).req = s.req := rfl

@[simp] theorem State.optionDone_ctx (s : State) (o : TcpOptions) (i : Nat) :
    (s.optionDone o i).ctx = s.ctx := rfl

@[simp] theorem State.optionDone_work (s : State) (o : TcpOptions) (i : Nat) :
    (s.optionDone o i).work = { s.work with tcp := { s.work.tcp with options := o }, cur := i } := rfl

@[simp] theorem State.optionDone_registry (s : State) (o : TcpOptions) (i : Nat) :
    (s.optionDone o i).registry = s.registry := rfl

@[simp] theorem State.optionDone_obs (s : State) (o : TcpOptions) (i : Nat) :
    (s.optionDone o i).obs = s.obs := rfl

/-! ## `raised` -/

@[simp] theorem State.raised_cfg (s : State) (c : FatalCode) (o : Nat) :
    (s.raised c o).cfg = s.cfg := rfl

@[simp] theorem State.raised_mode (s : State) (c : FatalCode) (o : Nat) :
    (s.raised c o).mode = .idle := rfl

@[simp] theorem State.raised_calls (s : State) (c : FatalCode) (o : Nat) :
    (s.raised c o).calls = s.calls := rfl

@[simp] theorem State.raised_responses (s : State) (c : FatalCode) (o : Nat) :
    (s.raised c o).responses = s.responses ++ [.err c o s.ctx.diag] := rfl

@[simp] theorem State.raised_observed (s : State) (c : FatalCode) (o : Nat) :
    (s.raised c o).observed = s.observed := rfl

@[simp] theorem State.raised_req (s : State) (c : FatalCode) (o : Nat) :
    (s.raised c o).req = s.req := rfl

@[simp] theorem State.raised_ctx (s : State) (c : FatalCode) (o : Nat) :
    (s.raised c o).ctx = { s.ctx with err := some (c, o), status := .fatal } := rfl

@[simp] theorem State.raised_work (s : State) (c : FatalCode) (o : Nat) :
    (s.raised c o).work = Work.empty := rfl

@[simp] theorem State.raised_registry (s : State) (c : FatalCode) (o : Nat) :
    (s.raised c o).registry = s.registry := rfl

@[simp] theorem State.raised_obs (s : State) (c : FatalCode) (o : Nat) :
    (s.raised c o).obs = s.obs := rfl

/-! ## `respond` -/

@[simp] theorem State.respond_cfg (s : State) (p : NetPayload) :
    (s.respond p).cfg = s.cfg := rfl

@[simp] theorem State.respond_mode (s : State) (p : NetPayload) :
    (s.respond p).mode = .idle := rfl

@[simp] theorem State.respond_calls (s : State) (p : NetPayload) :
    (s.respond p).calls = s.calls := rfl

@[simp] theorem State.respond_responses (s : State) (p : NetPayload) :
    (s.respond p).responses = s.responses ++ [.ok (s.frame p) s.ctx.diag] := rfl

@[simp] theorem State.respond_observed (s : State) (p : NetPayload) :
    (s.respond p).observed = s.observed := rfl

@[simp] theorem State.respond_req (s : State) (p : NetPayload) :
    (s.respond p).req = s.req := rfl

@[simp] theorem State.respond_ctx (s : State) (p : NetPayload) :
    (s.respond p).ctx = { s.ctx with status := .ok } := rfl

@[simp] theorem State.respond_work (s : State) (p : NetPayload) :
    (s.respond p).work = Work.empty := rfl

@[simp] theorem State.respond_registry (s : State) (p : NetPayload) :
    (s.respond p).registry = s.registry := rfl

@[simp] theorem State.respond_obs (s : State) (p : NetPayload) :
    (s.respond p).obs = s.obs := rfl

/-! ## `observed1` -/

@[simp] theorem State.observed1_cfg (s : State) (out : List Signal) :
    (s.observed1 out).cfg = s.cfg := rfl

@[simp] theorem State.observed1_mode (s : State) (out : List Signal) :
    (s.observed1 out).mode = .idle := rfl

@[simp] theorem State.observed1_calls (s : State) (out : List Signal) :
    (s.observed1 out).calls = s.calls := rfl

@[simp] theorem State.observed1_responses (s : State) (out : List Signal) :
    (s.observed1 out).responses = s.responses := rfl

@[simp] theorem State.observed1_observed (s : State) (out : List Signal) :
    (s.observed1 out).observed = s.observed ++ [out] := rfl

@[simp] theorem State.observed1_req (s : State) (out : List Signal) :
    (s.observed1 out).req = s.req := rfl

@[simp] theorem State.observed1_ctx (s : State) (out : List Signal) :
    (s.observed1 out).ctx = s.ctx := rfl

@[simp] theorem State.observed1_work (s : State) (out : List Signal) :
    (s.observed1 out).work = s.work := rfl

@[simp] theorem State.observed1_registry (s : State) (out : List Signal) :
    (s.observed1 out).registry = s.registry := rfl

@[simp] theorem State.observed1_obs (s : State) (out : List Signal) :
    (s.observed1 out).obs = none := rfl

end Sys2Proof.Machine
end

