-- ==== Sys2Proof/Machine/Render.lean ====
section
/-! DEFINITION. The reference text syntax of addresses, ARP, ICMP and names (R152, R153, R155, R247,
R368). It is no output of the block (R5): no step calls it. -/

namespace Sys2Proof.Machine

/-- One lower-case hexadecimal digit. -/
def hexDigit (n : Nat) : String :=
  String.ofList [if n < 10 then Char.ofNat (48 + n) else Char.ofNat (87 + n)]

/-- A byte as two lower-case hexadecimal digits (R152). -/
def hexByte (b : Byte) : String := hexDigit (b.toNat / 16) ++ hexDigit (b.toNat % 16)

/-- A number as decimal digits without leading zeros, in at most `fuel + 1` digits (R152). -/
def decimalDigits : Nat → Nat → String
  | 0, n => hexDigit (n % 10)
  | fuel + 1, n => if n < 10 then hexDigit n else decimalDigits fuel (n / 10) ++ hexDigit (n % 10)

/-- A byte as decimal digits without leading zeros (R152). -/
def decimalByte (b : Byte) : String := decimalDigits 2 b.toNat

/-- Strings joined by a separator. -/
def joined (sep : String) : List String → String
  | [] => ""
  | [x] => x
  | x :: rest => x ++ sep ++ joined sep rest

/-- Pairs of bytes as four-digit groups (R152). -/
def hexGroups : Bytes → List String
  | x :: y :: rest => (hexByte x ++ hexByte y) :: hexGroups rest
  | [x] => [hexByte x]
  | [] => []

/-- The text of an Ethernet address (R152). -/
def renderEthernet (a : Bytes) : String := joined ":" (a.map hexByte)

/-- The text of an IPv4 address (R152). -/
def renderIpv4 (a : Bytes) : String := joined "." (a.map decimalByte)

/-- The text of an IPv6 address: eight groups, never compressed (R152). -/
def renderIpv6 (a : Bytes) : String := joined ":" (hexGroups a)

/-- The word of an ARP operation class (R153). -/
def ArpClass.word : ArpClass → String
  | .request => "request"
  | .reply => "reply"
  | .unknown => "unknown"

/-- The text of an ARP record (R153). -/
def renderArp (r : ArpRec) : String :=
  r.opClass.word ++ " sender " ++ renderEthernet r.senderHw ++ " " ++ renderIpv4 r.senderProto
    ++ " target " ++ renderEthernet r.targetHw ++ " " ++ renderIpv4 r.targetProto

/-- The text of an ICMP record: the numeric form, whatever the type and code (R155). -/
def renderIcmp (r : IcmpRec) : String :=
  "type=" ++ decimalByte r.icmpType ++ " code=" ++ decimalByte r.icmpCode

/-- The text of a label: each byte as its ASCII character (R368). DESIGN CHOICE: a byte 0x80 to 0xFF has
no ASCII character and the spec gives it no text; here it is the Unicode character of the same number
(assumption log, entry 27). -/
def renderLabel (l : Label) : String := String.ofList (l.map (fun b => Char.ofNat b.toNat))

/-- The text of a name: its labels joined by dots, the root a single dot (R368). -/
def renderName (n : DnsName) : String := if n = [] then "." else joined "." (n.map renderLabel)

/-- The text of No Next Header: nothing (R247). -/
def renderNoNext : String := ""

end Sys2Proof.Machine
end

