-- ==== Sys2Proof/Tests/Slice0.lean ====
section
/-! SUPPORT. Tests of the model: ill-formed terms, codes written out from the tables, one-step tests on
the spec's own examples, and for each statement with hypotheses a state that meets them. -/

namespace Sys2Proof.Tests
open Sys2Proof Sys2Proof.Machine

/-! ## Helpers -/

/-- The outcome is a next state that passes a test. -/
def after (o : Out) (test : State → Bool) : Bool :=
  match o with
  | .next t => test t
  | .fault _ => false
  | .refused _ => false

/-- The outcome is the fatal error with a code and an offset, and the block is idle. -/
def fails (c : FatalCode) (off : Nat) (o : Out) : Bool :=
  after o fun t => t.ctx.err == some (c, off) && t.ctx.status == .fatal && t.mode == .idle
    && t.responses == [.err c off t.ctx.diag]

/-- A request under way on a byte string, with `OFF = off`, the next header at `n` and `REM = rem`,
under an IPv4 header. -/
def at' (l : List Nat) (off n : Nat) (rem : Int) : State :=
  { State.reset with
    mode := .row
    req := { State.reset.req with
      buf := Buffer.ofBytes (l.map (BitVec.ofNat 8)), blen := l.length }
    ctx := { Ctx.reset 0#3 with off := off, rem := rem }
    work := { Work.empty with next := n, net := some (.ipv4 (placedIpv4 6#8)) } }

/-- A TCP option area under way: the cursor at 0, `OPTEND` at `e`. -/
def inArea (l : List Nat) (e : Nat) : State :=
  let s := at' l 0 0 40
  { s with mode := .options, ctx := { s.ctx with optend := e } }

/-- A DNS message that fills the buffer, with the name cursor at `c`. -/
def inDns (l : List Nat) (c : Nat) : State :=
  let s := at' l 0 0 0
  ({ s with ctx := { s.ctx with dnsend := l.length } } : State).startName c .question

/-- A record of a DNS message, its data at `d` with length `rl`. -/
def inRecord (l : List Nat) (d rl : Nat) : State :=
  let s := inDns l 0
  { s with
    mode := .row
    work := { s.work with
      dns := { s.work.dns with
        left := 1, rdStart := d, rr := { RR.blank with rdlength := BitVec.ofNat 16 rl } } } }

/-- A request whose parameters bound the depth at 1. -/
def shallow (s : State) : State :=
  { s with cfg := { s.cfg with maxLayerDepth := some 1 }, ctx := { s.ctx with depth := 1 } }

/-- Two endpoints (R403). -/
def client : Endpoint := { addr := [10#8, 0#8, 0#8, 1#8], port := 1234#16 }
/-- The other endpoint (R403). -/
def server : Endpoint := { addr := [10#8, 0#8, 0#8, 2#8], port := 80#16 }

/-- A segment between two endpoints. -/
def seg (a b : Endpoint) (flags : BitVec 9) (seq ack len : Nat) : Segment :=
  { src := a, dst := b
    tcp := { TcpRec.blank with
      srcPort := a.port, dstPort := b.port, flags := TcpFlags.ofWord flags
      seqno := BitVec.ofNat 32 seq, ackno := BitVec.ofNat 32 ack, headerLength := 20
      dataLength := len, data := if len = 0 then .absent else .span 54 len len
      options := { TcpOptions.empty with windowScale := some 7#8 } }
    time := { sec := 9#32, usec := 0#32 }, ipHdrBytes := 20, tcpHdrBytes := 20, payloadBytes := len }

/-- A flow from client to server in a state. -/
def flow (st : FlowState) : TcpFlow :=
  { newFlow (flowKey client server) with
    fresh := false, state := st, src := some client, dst := some server }

/-- An `observe` call under way. -/
def watching (fl : TcpFlow) (s : Segment) : State :=
  { State.reset with
    mode := .observe
    registry := [(fl.key, fl)]
    obs := some { seg := s, key := fl.key, flow := fl, out := [], row := classRow fl s } }

/-- A frame that carries a segment (R402). -/
def frameOf (s : Segment) : DecodedFrame :=
  { linkType := 2#3, capturedAt := s.time, originalLength := 40#32, capturedLength := 40#32
    payload :=
      { hdr := .raw
        payload := .ipv4 { placedIpv4 6#8 with src := s.src.addr, dst := s.dst.addr } (.tcp s.tcp) } }

/-! ## Well-formedness: an ill-formed term for each check -/

theorem test_wf_refuses_link : Instr.wf Config.standard (.ltOther 4#3) = false := by decide
theorem test_wf_refuses_lengths :
    Instr.wf Config.standard (.etLenLo 1024#16) = false ∧
    Instr.wf Config.standard (.etLenHi 1023#16) = false ∧
    Instr.wf Config.standard (.etLenHi 1536#16) = false ∧
    Instr.wf { Config.standard with etArp := 0x0100#16 } (.etLenLo 0x0100#16) = false := by decide
theorem test_wf_refuses_ethertype :
    Instr.wf Config.standard (.etUnknown 0x05FF#16) = false ∧
    Instr.wf Config.standard (.etUnknown 0x86DD#16) = false ∧
    Instr.wf { Config.standard with etArp := 0x0800#16 } .etArp = false ∧
    Instr.wf { Config.standard with etIpv6 := 0x0800#16 } .etIpv6 = false ∧
    Instr.wf { Config.standard with etIpv6 := 0x0806#16 } .etIpv6 = false := by decide
theorem test_wf_refuses_family : Instr.wf Config.standard (.nfOther 28#8) = false := by decide
theorem test_wf_refuses_sap :
    Instr.wf Config.standard (.llcBad 0xAAAA#16) = false ∧
    Instr.wf Config.standard (.llcBad 0x0000#16) = false := by decide
theorem test_wf_refuses_protocol : Instr.wf Config.standard (.pUnknown 51#8) = false := by decide
theorem test_wf_refuses_option :
    Instr.wf Config.standard (.optBad 255#8) = false ∧
    Instr.wf Config.standard (.sackBad 26#8) = false := by decide
theorem test_wf_refuses_label : Instr.wf Config.standard (.dnsLabel 0#6) = false := by decide
theorem test_wf_refuses_record : Instr.wf Config.standard (.rrOther 0x001C0001#32) = false := by
  decide
theorem test_wf_refuses_operation : Instr.wf Config.standard (.arpUnknown 2#16) = false := by decide
theorem test_wf_refuses_igmp :
    Instr.wf Config.standard (.igmpOther 0x22#8) = false ∧
    (let same : Config :=
      { Config.standard with
        igmpVersionTable := ⟨⟨1#8, .v3⟩, ⟨1#8, .v1⟩, ⟨1#8, .v2⟩, ⟨1#8, .v2⟩, ⟨1#8, .v3⟩⟩ }
     Instr.wf same .igmpV1Report = false ∧ Instr.wf same .igmpV2Report = false ∧
     Instr.wf same .igmpLeave = false ∧ Instr.wf same .igmpV3Report = false) := by decide
theorem test_wf_refuses_ports :
    Instr.wf Config.standard (.udpDnsDst 53#16) = false ∧
    Instr.wf Config.standard (.udpPlain 53#16 1#16) = false ∧
    Instr.wf Config.standard (.udpPlain 1#16 53#16) = false := by decide
theorem test_wf_refuses_class :
    Instr.wf Config.standard (.segSynNoAck 0x012#9) = false ∧
    Instr.wf Config.standard (.segSynAck 0x010#9) = false ∧
    Instr.wf Config.standard (.segAck 0x002#9) = false ∧
    Instr.wf Config.standard (.segFin 0x010#9) = false := by decide

/-! ## Codes, bit by bit from the tables (R134 to R146) -/

theorem test_decode_link :
    decodeLinkCode 0b000#3 = .ltEthernet ∧ decodeLinkCode 0b001#3 = .ltNull ∧
    decodeLinkCode 0b010#3 = .ltRawIpv4 ∧ decodeLinkCode 0b011#3 = .ltLinuxSll ∧
    decodeLinkCode 0b100#3 = .ltLlc ∧ decodeLinkCode 0b101#3 = .ltOther 5#3 ∧
    decodeLinkCode 0b111#3 = .ltOther 7#3 := by decide
theorem test_decode_ethertype :
    decodeEthertype Config.standard 0b0000100000000000#16 = .etIpv4 ∧
    decodeEthertype Config.standard 0b0000100000000110#16 = .etArp ∧
    decodeEthertype Config.standard 0b1000011011011101#16 = .etIpv6 ∧
    decodeEthertype Config.standard 0b0000001111111111#16 = .etLenLo 1023#16 ∧
    decodeEthertype Config.standard 0b0000010000000000#16 = .etLenHi 1024#16 ∧
    decodeEthertype Config.standard 0b0000010111111111#16 = .etLenHi 1535#16 ∧
    decodeEthertype Config.standard 0b0000011000000000#16 = .etUnknown 1536#16 ∧
    decodeEthertype Config.standard 0b1000000100000000#16 = .etUnknown 0x8100#16 := by decide
theorem test_decode_family :
    decodeNullFamily 0b00000010#8 = .nfInet ∧ decodeNullFamily 0b00011000#8 = .nfInet6_24 ∧
    decodeNullFamily 0b00011100#8 = .nfInet6_28 ∧ decodeNullFamily 0b00011110#8 = .nfInet6_30 ∧
    decodeNullFamily 0b00010111#8 = .nfOther 23#8 := by decide
theorem test_decode_sap :
    decodeSap 0b1010101010101010#16 = .llcSnap ∧ decodeSap 0b0000000000000000#16 = .llcBasic ∧
    decodeSap 0b1010101000000000#16 = .llcBad 0xAA00#16 ∧
    decodeSap 0b0100001001000010#16 = .llcBad 0x4242#16 := by decide
theorem test_decode_protocol :
    decodeProtocol 0b00000000#8 = .pExt0 ∧ decodeProtocol 0b00000001#8 = .pIcmp ∧
    decodeProtocol 0b00000010#8 = .pIgmp ∧ decodeProtocol 0b00000100#8 = .pIpv4 ∧
    decodeProtocol 0b00000110#8 = .pTcp ∧ decodeProtocol 0b00010001#8 = .pUdp ∧
    decodeProtocol 0b00101001#8 = .pIpv6 ∧ decodeProtocol 0b00101011#8 = .pExt43 ∧
    decodeProtocol 0b00110011#8 = .pExt51 ∧ decodeProtocol 0b00111011#8 = .pNoNext ∧
    decodeProtocol 0b00111100#8 = .pExt60 ∧ decodeProtocol 0b10000111#8 = .pExt135 ∧
    decodeProtocol 0b10001011#8 = .pExt139 ∧ decodeProtocol 0b10001100#8 = .pExt140 ∧
    decodeProtocol 0b00101100#8 = .pUnknown 44#8 ∧ decodeProtocol 0b00111010#8 = .pUnknown 58#8 := by
  decide
theorem test_decode_option :
    decodeOptionKind 0b00000000#8 = .optEol ∧ decodeOptionKind 0b00000001#8 = .optNop ∧
    decodeOptionKind 0b00000010#8 = .optMss ∧ decodeOptionKind 0b00000011#8 = .optWscale ∧
    decodeOptionKind 0b00000100#8 = .optSackOk ∧ decodeOptionKind 0b00000101#8 = .optSack ∧
    decodeOptionKind 0b00001000#8 = .optTs ∧ decodeOptionKind 0b11111110#8 = .optExp254 ∧
    decodeOptionKind 0b11111111#8 = .optExp255 ∧ decodeOptionKind 0b00000110#8 = .optBad 6#8 ∧
    decodeOptionKind 0b11111101#8 = .optBad 253#8 := by decide
theorem test_decode_sack :
    decodeSackLength 0b00001010#8 = .sack1 ∧ decodeSackLength 0b00010010#8 = .sack2 ∧
    decodeSackLength 0b00011010#8 = .sack3 ∧ decodeSackLength 0b00100010#8 = .sack4 ∧
    decodeSackLength 0b00001011#8 = .sackBad 11#8 := by decide
theorem test_decode_label :
    decodeLabelByte 0b00000000#8 = .dnsTerm ∧ decodeLabelByte 0b00000001#8 = .dnsLabel 1#6 ∧
    decodeLabelByte 0b00111111#8 = .dnsLabel 63#6 ∧ decodeLabelByte 0b11000000#8 = .dnsPtr 0#6 ∧
    decodeLabelByte 0b11100101#8 = .dnsPtr 37#6 ∧ decodeLabelByte 0b01000001#8 = .dnsRsv01 1#6 ∧
    decodeLabelByte 0b10111111#8 = .dnsRsv10 63#6 := by decide
theorem test_decode_record :
    decodeRecordType 0x00010001#32 = .rrAIn ∧ decodeRecordType 0x00020001#32 = .rrNsIn ∧
    decodeRecordType 0x001C0001#32 = .rrAaaaIn ∧
    decodeRecordType 0x000C0001#32 = .rrOther 0x000C0001#32 ∧
    decodeRecordType 0x00010003#32 = .rrOther 0x00010003#32 := by decide
theorem test_decode_operation :
    decodeArpOperation 0x0001#16 = .arpRequest ∧ decodeArpOperation 0x0002#16 = .arpReply ∧
    decodeArpOperation 0x0003#16 = .arpUnknown 3#16 ∧
    decodeArpOperation 0x0100#16 = .arpUnknown 256#16 := by decide
theorem test_decode_igmp :
    decodeIgmpType Config.standard 0b00010001#8 = .igmpQuery ∧
    decodeIgmpType Config.standard 0b00010010#8 = .igmpV1Report ∧
    decodeIgmpType Config.standard 0b00010110#8 = .igmpV2Report ∧
    decodeIgmpType Config.standard 0b00010111#8 = .igmpLeave ∧
    decodeIgmpType Config.standard 0b00100010#8 = .igmpV3Report ∧
    decodeIgmpType Config.standard 0b00010011#8 = .igmpOther 0x13#8 := by decide
theorem test_decode_ports :
    decodePorts Config.standard 0x00350035#32 = .udpDnsSrc 53#16 ∧
    decodePorts Config.standard 0xD4310035#32 = .udpDnsDst 54321#16 ∧
    decodePorts Config.standard 0x14E90400#32 = .udpPlain 5353#16 1024#16 := by decide
theorem test_decode_class :
    decode Config.standard (.tcpclass .synNoAck 0b000000010#9) = .ok (.segSynNoAck 0x002#9) ∧
    decode Config.standard (.tcpclass .synAck 0b000010010#9) = .ok (.segSynAck 0x012#9) ∧
    decode Config.standard (.tcpclass .ack 0b000010000#9) = .ok (.segAck 0x010#9) ∧
    decode Config.standard (.tcpclass .fin 0b000000001#9) = .ok (.segFin 0x001#9) ∧
    decode Config.standard (.tcpclass .synNoAck 0b000010010#9) =
      .error (.classMiss .synNoAck 0x012#9) := by decide
theorem test_table_words :
    decodeTableWord 3 0x2 = some .ltRawIpv4 ∧ decodeTableWord 16 0x86DD = some .etIpv6 ∧
    decodeTableWord 8 0x8C = some .pExt140 ∧ decodeTableWord 8 0x22 = some .sack4 ∧
    decodeTableWord 32 0x001C0001 = some .rrAaaaIn ∧
    decodeTableWord 32 0x00350000 = some (.udpDnsSrc 0#16) := by decide

/-! ## One step: the link layer -/

/-- The bytes of an Ethernet header up to its type (the example of R190). -/
def etherBytes : List Nat := [0xff, 0xff, 0xff, 0xff, 0xff, 0xff, 0x00, 0x11, 0x22, 0x33, 0x44, 0x55]

theorem test_ethernet_type :
    after (exec .ltEthernet (at' (etherBytes ++ [0x08, 0x06]) 0 0 0))
      (fun t => t.ctx.sel == .ethertype 0x0806#16 && t.work.next == 14 && t.ctx.depth == 1) = true := by
  decide
theorem test_ethernet_tag :
    after (exec .ltEthernet (at' (etherBytes ++ [0x81, 0x00, 0x60, 0x01, 0x08, 0x00]) 0 0 0))
      (fun t => t.ctx.sel == .ethertype 0x0800#16 && t.work.next == 18
        && t.work.link == .ethernet
            { dst := [0xff#8, 0xff#8, 0xff#8, 0xff#8, 0xff#8, 0xff#8]
              src := [0x00#8, 0x11#8, 0x22#8, 0x33#8, 0x44#8, 0x55#8]
              vlan := some { priority := 3#3, cfi := 0#1, id := 1#12 }
              ethertype := 0x0800#16 }) = true := by decide
theorem test_null_both_orders :
    after (exec .ltNull (at' [0, 0, 0, 2] 0 0 0)) (fun t => t.ctx.sel == .nullfam 2#8) = true ∧
    after (exec .ltNull (at' [2, 0, 0, 0] 0 0 0))
      (fun t => t.ctx.sel == .nullfam 2#8 && t.work.next == 4) = true := by decide
theorem test_sll_address :
    after (exec .ltLinuxSll
        (at' [0, 0, 0, 1, 0, 6, 0x00, 0x11, 0x22, 0x33, 0x44, 0x55, 0, 0, 0x08, 0x00] 0 0 0))
      (fun t => t.work.next == 16 && t.work.link == .linuxCooked
        { packetType := 0#16, addressType := 1#16, addressLen := 6#16
          address := [0x00#8, 0x11#8, 0x22#8, 0x33#8, 0x44#8, 0x55#8]
          ethertype := 0x0800#16 }) = true := by decide
theorem test_llc_snap :
    after (exec .llcSnap (at' [0xAA, 0xAA, 3, 0, 0, 0, 8, 0] 0 8 0))
      (fun t => t.ctx.sel == .ethertype 0x0800#16 && t.work.next == 8
        && t.work.link == .llc
            { dsap := 0xAA#8, ssap := 0xAA#8, control := 3#8, ethertype := 0x0800#16 }) = true := by
  decide
theorem test_llc_basic :
    after (exec .llcBasic (at' [0, 0, 3, 0, 0, 0, 8, 6] 0 8 0))
      (fun t => t.ctx.sel == .ethertype 0x0806#16
        && t.work.link == .llc
            { dsap := 0#8, ssap := 0#8, control := 3#8, ethertype := 0x0806#16 }) = true := by decide
theorem test_llc_looks_up_pair :
    after (exec .ltLlc (at' [0x42, 0x42, 3] 0 0 0)) (fun t => t.ctx.sel == .llcsap 0x4242#16) = true ∧
    fails .llcBadSap 0 (exec (.llcBad 0x4242#16) (at' [0x42, 0x42, 3] 0 8 0)) = true := by decide
theorem test_length_type_is_fatal :
    fails .ethertypeIsLength 12 (exec (.etLenHi 1500#16) (at' etherBytes 0 14 0)) = true ∧
    fails .ethertypeIsLength 16 (exec (.etLenLo 5#16) (at' etherBytes 0 18 0)) = true := by decide
theorem test_unknown_ethertype :
    after (exec (.etUnknown 0x88CC#16) (at' etherBytes 0 14 0))
      (fun t => t.mode == .deliverNet (.unknown 0x88CC#16)
        && t.ctx.diag == [.unknownEthertype 0x88CC#16 12]) = true := by decide
theorem test_bad_family : fails .nullBadFamily 0 (exec (.nfOther 23#8) (at' [23, 0, 0, 0] 0 4 0)) = true := by
  decide
theorem test_bad_link_type :
    fails .unsupportedLinkType 0 (exec (.ltOther 5#3) (at' [0] 0 0 0)) = true := by decide

/-! ## One step: the network layer -/

/-- The IPv4 header of the example of R230. -/
def ipv4Bytes : List Nat :=
  [0x45, 0, 0, 0x3C, 0x1C, 0x46, 0x40, 0, 0x40, 6, 0xB1, 0xE6, 0xC0, 0xA8, 0, 0x68, 0xC0, 0xA8, 0, 1]

/-- The record that the example of R230 gives. -/
def ipv4Record : Ipv4Hdr :=
  { version := 4#4, headerLength := 20, dsfield := 0#8, totalLength := 60#16
    identification := 0x1C46#16
    flags := { reserved := false, doNotFragment := true, moreFragments := false }
    fragmentOffset := 0, ttl := 64#8, protocol := 6#8, checksum := 0xB1E6#16
    checksumStatus := .unchecked, src := [192#8, 168#8, 0#8, 104#8], dst := [192#8, 168#8, 0#8, 1#8] }

theorem test_ipv4_record :
    after (exec .etIpv4 (at' ipv4Bytes 0 0 0))
      (fun t => t.work.net == some (.ipv4 ipv4Record) && t.ctx.sel == .ipproto 6#8
        && t.work.next == 20 && t.ctx.rem == 40) = true := by decide
theorem test_ipv4_options_skipped :
    after (exec .ltRawIpv4 (at' (0x46 :: ipv4Bytes.drop 1) 0 0 0))
      (fun t => t.work.next == 24 && t.ctx.rem == 36 && t.work.link == .raw) = true := by decide
theorem test_ipv4_nested :
    after (exec .pIpv4 (at' ipv4Bytes 0 0 7))
      (fun t => t.work.inner == [.ipv4 ipv4Record] && t.ctx.rem == 40) = true := by decide
theorem test_ipv4_null_family :
    after (exec .nfInet (at' ([2, 0, 0, 0] ++ ipv4Bytes) 0 4 0))
      (fun t => t.ctx.off == 4 && t.work.next == 24) = true := by decide

/-- An IPv6 header with next header 59 and hop limit 64 (the example of R234). -/
def ipv6Bytes : List Nat :=
  [0x60, 0, 0, 0, 0, 0, 0x3B, 0x40] ++ List.replicate 15 0 ++ [1] ++ List.replicate 15 0 ++ [2]

theorem test_ipv6_remaining_absolute :
    after (exec .etIpv6 (at' (List.replicate 14 0 ++ ipv6Bytes) 0 14 0))
      (fun t => t.ctx.rem == 14 && t.ctx.sel == .ipproto 59#8 && t.work.next == 54) = true := by decide
theorem test_ipv6_remaining_relative :
    (let s := at' (List.replicate 14 0 ++ ipv6Bytes) 0 14 0
     after (exec .nfInet6_30 { s with cfg := { s.cfg with ipv6RemainingBasis := .relative } })
      (fun t => t.ctx.rem == 0)) = true := by decide
theorem test_ipv6_nested :
    after (exec .pIpv6 (at' ipv6Bytes 0 0 7))
      (fun t => t.work.inner.length == 1 && t.ctx.rem == 0) = true := by decide
theorem test_extension_header :
    after (exec .pExt0 (at' [6, 0, 0, 0, 0, 0, 0, 0] 0 0 28))
      (fun t => t.ctx.rem == 20 && t.ctx.sel == .ipproto 6#8 && t.work.next == 8
        && t.work.inner == [.ext { protocol := 0#8, nextHeader := 6#8, lengthField := 0#8,
                                   headerLength := 8 }]) = true := by decide
theorem test_extension_longest :
    after (exec .pExt140 (at' [59, 255] 0 0 2048)) (fun t => t.ctx.rem == 0 && t.work.next == 2048) = true ∧
    fails .lengthUnderflow 1 (exec .pExt140 (at' [59, 255] 0 0 2047)) = true := by decide
theorem test_no_next :
    after (exec .pNoNext (at' [] 0 54 0)) (fun t => t.mode == .deliverProto .noNext) = true ∧
    fails .noNextTrailing 54 (exec .pNoNext (at' [] 0 54 4)) = true ∧
    fails .noNextTrailing 54 (exec .pNoNext (at' [] 0 54 (-4))) = true := by decide
theorem test_unknown_protocol :
    fails .ipProtoUnknown 14 (exec (.pUnknown 58#8) (at' [] 14 54 0)) = true := by decide

/-- The ARP record of the example of R248. -/
def arpBytes : List Nat :=
  [0, 1, 8, 0, 6, 4, 0, 1, 0x00, 0x11, 0x22, 0x33, 0x44, 0x55, 0xC0, 0xA8, 0, 1, 0, 0, 0, 0, 0, 0,
   0xC0, 0xA8, 0, 2]

theorem test_arp_record :
    after (exec .etArp (at' arpBytes 0 0 0))
      (fun t => t.ctx.sel == .arpop 1#16 && t.work.arp.hardwareType == 1#16
        && renderArp { t.work.arp with opClass := .request }
            == "request sender 00:11:22:33:44:55 192.168.0.1 target 00:00:00:00:00:00 192.168.0.2") = true := by
  decide
theorem test_arp_lengths :
    fails .arpUnsupported 4 (exec .etArp (at' [0, 1, 8, 0, 6, 16, 0, 1] 0 0 0)) = true := by decide
theorem test_arp_classes :
    after (exec .arpRequest (at' [] 0 0 0))
      (fun t => t.mode == .deliverNet (.arp { ArpRec.blank with opClass := .request })) = true ∧
    after (exec .arpReply (at' [] 0 0 0))
      (fun t => t.mode == .deliverNet (.arp { ArpRec.blank with opClass := .reply })) = true ∧
    after (exec (.arpUnknown 3#16) (at' [] 0 0 0))
      (fun t => t.mode == .deliverNet (.arp { ArpRec.blank with opClass := .unknown })) = true := by
  decide

/-! ## One step: transport -/

/-- The TCP header of the example of R290. -/
def tcpBytes : List Nat :=
  [0x04, 0xD2, 0x00, 0x50, 0, 0, 0, 1, 0, 0, 0, 0, 0x50, 0x02, 0x20, 0x00, 0xAB, 0xCD, 0, 0]

theorem test_tcp_header :
    after (exec .pTcp (at' tcpBytes 0 0 20))
      (fun t => t.mode == .options && t.work.cur == 20 && t.ctx.optend == 20
        && t.work.tcp.srcPort == 1234#16 && t.work.tcp.dstPort == 80#16 && t.work.tcp.seqno == 1#32
        && t.work.tcp.flags == { TcpFlags.clear with syn := true }
        && t.work.tcp.window == 8192#16) = true := by decide
theorem test_tcp_data_offset :
    after (exec .pTcp (at' (tcpBytes.take 12 ++ [0x81, 0x01] ++ tcpBytes.drop 14) 0 0 32))
      (fun t => t.ctx.optend == 32 && t.work.tcp.headerLength == 32
        && t.work.tcp.flags == { TcpFlags.clear with ns := true, fin := true }) = true ∧
    fails .headerLengthInvalid 12
      (exec .pTcp (at' (tcpBytes.take 12 ++ [0x40, 0x02] ++ tcpBytes.drop 14) 0 0 32)) = true := by
  decide
theorem test_tcp_data :
    (let s := inArea (List.replicate 30 0) 20
     let withTcp (rem : Int) : State :=
       { s with ctx := { s.ctx with rem := rem }
                work := { s.work with cur := 20, tcp := { TcpRec.blank with headerLength := 20 } } }
     after (step (withTcp 40)) (fun t => t.mode ==
       .deliverProto (.tcp { TcpRec.blank with headerLength := 20, dataLength := 20,
                                               data := .span 20 20 10 })) = true ∧
     after (step (withTcp 20)) (fun t => t.mode ==
       .deliverProto (.tcp { TcpRec.blank with headerLength := 20 })) = true ∧
     fails .lengthUnderflow 0 (step (withTcp 12)) = true) := by decide
theorem test_option_mss :
    after (step (inArea [2, 4, 0x05, 0xB4] 4))
      (fun t => t.work.tcp.options.mss == some 1460#16 && t.work.cur == 4 && t.mode == .options) = true ∧
    fails .tcpOptionBadLength 0 (step (inArea [2, 5, 0x05, 0xB4, 0] 5)) = true := by decide
theorem test_option_wscale :
    after (step (inArea [3, 3, 7] 3))
      (fun t => t.work.tcp.options.windowScale == some 7#8 && t.work.cur == 3) = true := by decide
theorem test_option_sackok :
    after (step (inArea [4, 2] 2))
      (fun t => t.work.tcp.options.sackPermitted && t.work.cur == 2) = true := by decide
theorem test_option_timestamp :
    after (step (inArea [8, 10, 0, 0, 0, 100, 0, 0, 0, 0] 10))
      (fun t => t.work.tcp.options.timestamp == some { value := 100#32, echo := 0#32 }
        && t.work.cur == 10) = true := by decide
theorem test_option_eol_and_nop :
    after (step (inArea [0, 0xFF, 0xFF, 0xFF] 4))
      (fun t => t.work.cur == 4 && t.work.tcp.options == TcpOptions.empty) = true ∧
    after (step (inArea [1, 1] 2)) (fun t => t.work.cur == 1) = true := by decide
theorem test_option_experimental :
    after (step (inArea [254, 4, 9, 9] 4)) (fun t => t.work.cur == 4) = true ∧
    after (step (inArea [255, 2] 2)) (fun t => t.work.cur == 2) = true ∧
    fails .tcpOptionBadLength 0 (step (inArea [254, 1, 9, 9] 4)) = true := by decide
theorem test_option_unknown :
    fails .tcpOptionUnknownKind 0 (step (inArea [0x1E, 4, 0, 0] 4)) = true := by decide
theorem test_option_past_area :
    fails .tcpOptionBadLength 0 (step (inArea [2, 4, 5] 3)) = true ∧
    fails .truncated 2 (step (inArea [2, 4] 4)) = true := by decide
theorem test_option_sack_looks_up :
    after (step (inArea [5, 10] 10)) (fun t => t.ctx.sel == .sacklen 10#8 && t.mode == .row) = true ∧
    fails .tcpOptionBadLength 0 (exec (.sackBad 11#8) (inArea [5, 11] 11)) = true := by decide
theorem test_sack_one_pair :
    after (exec .sack1 (inArea [5, 10, 0, 0, 0, 1, 0, 0, 0, 2] 10))
      (fun t => t.work.tcp.options.sack == some [(1#32, 2#32)] && t.work.cur == 10) = true := by decide
theorem test_sack_more_pairs :
    after (exec .sack2 (inArea ([5, 18] ++ List.replicate 15 0 ++ [9]) 18))
      (fun t => t.work.tcp.options.sack == some [(0#32, 0#32), (0#32, 9#32)]) = true ∧
    after (exec .sack3 (inArea ([5, 26] ++ List.replicate 24 0) 26)) (fun t => t.work.cur == 26) = true ∧
    after (exec .sack4 (inArea ([5, 34] ++ List.replicate 32 0) 34)) (fun t => t.work.cur == 34) = true ∧
    fails .tcpOptionBadLength 0 (exec .sack4 (inArea ([5, 34] ++ List.replicate 32 0) 33)) = true := by
  decide
theorem test_udp_record :
    after (exec .pUdp (at' ([0xD4, 0x31, 0, 0x35, 0, 0x1D, 0, 0] ++ List.replicate 13 0) 0 0 0))
      (fun t => t.ctx.sel == .udpport 0xD4310035#32 && t.work.udp.length == 29#16
        && t.work.udp.data == .span 8 21 13) = true := by decide
theorem test_udp_plain :
    after (exec (.udpPlain 5353#16 1024#16) (at' [] 0 0 0))
      (fun t => t.mode == .deliverProto (.udp UdpRec.blank)) = true := by decide
theorem test_icmp_record :
    after (exec .pIcmp (at' [0x08, 0x00, 0xF7, 0xFF] 0 0 0))
      (fun t => t.mode == .deliverProto (.icmp
        { icmpType := 8#8, icmpCode := 0#8, checksum := 0xF7FF#16,
          checksumStatus := .unchecked })) = true := by decide
theorem test_igmp_record :
    after (exec .pIgmp (at' [0x16, 0, 0xFA, 0x04, 0xE0, 0, 0, 0xFB] 0 0 0))
      (fun t => t.ctx.sel == .igmptype 0x16#8
        && t.work.igmp.group == [224#8, 0#8, 0#8, 251#8]) = true := by decide
theorem test_igmp_versions :
    (let v (i : Instr) (w : Option IgmpVersion) : Bool :=
       after (exec i (at' [] 0 0 0))
         (fun t => t.mode == .deliverProto (.igmp { IgmpRec.blank with version := w }))
     v .igmpQuery (some .v3) && v .igmpV1Report (some .v1) && v .igmpV2Report (some .v2)
       && v .igmpLeave (some .v2) && v .igmpV3Report (some .v3) && v (.igmpOther 0x13#8) none) = true := by
  decide

/-! ## One step: DNS -/

/-- The header of the example of R350, at offset 8 of a UDP datagram. -/
def dnsHeader : List Nat := List.replicate 8 0 ++ [0x12, 0x34, 1, 0, 0, 1, 0, 0, 0, 0, 0, 0]

/-- A UDP datagram of a declared length, under way at offset 0. -/
def inUdp (l : List Nat) (n : Nat) : State :=
  let s := at' l 0 0 0
  { s with work := { s.work with udp := { UdpRec.blank with length := BitVec.ofNat 16 n } } }

theorem test_dns_header :
    after (exec (.udpDnsSrc 53#16) (inUdp dnsHeader 20))
      (fun t => t.mode == .sections && t.work.dns.msg.id == 0x1234#16
        && t.work.dns.msg.flags == { DnsFlags.clear with rd := true }
        && t.work.dns.msg.qdcount == 1#16 && t.work.dns.cursor == 20
        && t.ctx.dnsbase == 8 && t.ctx.dnsend == 20) = true := by decide
theorem test_dns_window_end :
    after (exec (.udpDnsDst 9#16) (inUdp (dnsHeader ++ [0, 0]) 21)) (fun t => t.ctx.dnsend == 21) = true ∧
    fails .truncated 18 (exec (.udpDnsDst 9#16) (inUdp dnsHeader 19)) = true := by decide
theorem test_dns_label :
    after (step (inDns [3, 0x61, 0x62, 0x63] 0))
      (fun t => t.work.dns.labels == [[0x61#8, 0x62#8, 0x63#8]] && t.work.dns.cur == 4
        && t.mode == .name) = true := by decide
theorem test_dns_root :
    after (step (inDns [9, 0] 1))
      (fun t => t.work.dns.labels == [] && t.work.dns.cursor == 2 && t.mode == .afterName) = true := by
  decide
theorem test_dns_pointer :
    after (step (inDns [0xC1, 0x0C] 0))
      (fun t => t.work.dns.cur == 268 && t.work.dns.resume == some 2 && t.ctx.hops == 1) = true := by
  decide
theorem test_dns_pointer_limit :
    (let s := inDns [0xC0, 0x00] 0
     fails .dnsPointerLimit 0 (step { s with ctx := { s.ctx with hops := 5 } })) = true := by decide
theorem test_dns_reserved_labels :
    fails .dnsBadLabelType 0 (step (inDns [0x41] 0)) = true ∧
    fails .dnsBadLabelType 0 (step (inDns [0xBF] 0)) = true := by decide
theorem test_record_a :
    after (exec .rrAIn (inRecord [0x5D, 0xB8, 0xD8, 0x22] 0 4))
      (fun t => t.work.dns.records ==
          [{ RR.blank with rdlength := 4#16, rdata := .a [93#8, 184#8, 216#8, 34#8] }]
        && t.work.dns.cursor == 4 && t.work.dns.left == 0) = true := by decide
theorem test_record_a_mismatch :
    after (exec .rrAIn (inRecord [0x5D, 0xB8, 0xD8, 0x22, 0x00] 0 5))
      (fun t => t.ctx.diag == [.dnsRdataLength 1#16 5#16 0] && t.work.dns.cursor == 5) = true := by decide
theorem test_record_aaaa :
    after (exec .rrAaaaIn
        (inRecord ([0x20, 0x01, 0x0D, 0xB8] ++ List.replicate 11 0 ++ [1]) 0 16))
      (fun t => t.work.dns.records.map RR.rdata
        == [.aaaa ([0x20#8, 0x01#8, 0x0D#8, 0xB8#8] ++ List.replicate 11 0#8 ++ [1#8])]) = true := by
  decide
theorem test_record_ns :
    after (exec .rrNsIn (inRecord [1, 0x61, 0] 0 3))
      (fun t => t.mode == .name && t.work.dns.cur == 0 && t.work.dns.nameUse == .nsData
        && t.ctx.hops == 0) = true := by decide
theorem test_record_other :
    after (exec (.rrOther 0x000C0001#32) (inRecord [1, 2, 3] 0 3))
      (fun t => t.work.dns.cursor == 3 && t.work.dns.records.map RR.rdata == [.unresolved]) = true := by
  decide

/-! ## One step: the tracker -/

theorem test_opening_syn :
    after (step (watching (newFlow (flowKey client server)) (seg client server 0x002#9 1000 0 0)))
      (fun t => t.registry.map (fun e =>
          (e.2.state, e.2.send.isn, e.2.send.windowScale, e.2.src, e.2.fresh))
        == [(.synSent, some 1000#32, some 7#8, some client, false)]) = true := by decide
theorem test_syn_retry :
    after (step (watching (flow .synSent) (seg client server 0x002#9 1000 0 0)))
      (fun t => t.observed == [[{ code := .synRetry, key := flowKey client server, arg := .none }]]
        && t.registry == [(flowKey client server, flow .synSent)]) = true := by decide
theorem test_handshake_reply :
    after (step (watching (flow .synSent) (seg server client 0x012#9 5 1001 0)))
      (fun t => t.registry.map (fun e => (e.2.state, e.2.recv.isn)) == [(.synRecv, some 5#32)]
        && t.observed == [[]]) = true := by decide
theorem test_handshake_reset :
    after (step (watching (flow .synSent) (seg client server 0x012#9 5 1001 0)))
      (fun t => t.registry.map (fun e => e.2.state) == [.closed]
        && t.observed.map (fun l => l.map Signal.code) == [[.reset]]) = true := by decide
theorem test_handshake_completion :
    after (step (watching (flow .synRecv) (seg client server 0x010#9 1001 6 0)))
      (fun t => t.registry.map (fun e => (e.2.state, e.2.connectTime))
          == [(.estab, some { sec := 9#32, usec := 0#32 })]
        && t.observed.map (fun l => l.map Signal.code) == [[.start]]) = true := by decide
theorem test_data_boundary :
    after (step (watching (flow .estab) (seg client server 0x010#9 1001 0 5)))
      (fun t => t.registry.map (fun e => e.2.send.retrans) == [[(1006, 0)]]
        && t.observed == [[{ code := .dataSend, key := flowKey client server,
                             arg := .data (.span 54 5 5) }]]) = true := by decide
theorem test_boundary_wraps : boundary 32 (seg client server 0x010#9 0xFFFFFFFE 0 4) = 2 := by decide
theorem test_fin_of_initiator :
    after (step (watching (flow .estab) (seg client server 0x011#9 1 0 0)))
      (fun t => t.registry.map (fun e => e.2.state) == [.finWait]) = true ∧
    after (step (watching (flow .estab) (seg server client 0x001#9 1 0 0)))
      (fun t => t.registry.map (fun e => e.2.state) == [.closeWait]) = true := by decide
theorem test_end_removes_flow :
    after (step (watching (flow .closing) (seg client server 0x010#9 1 0 0)))
      (fun t => t.registry == [] && t.observed.map (fun l => l.map Signal.code) == [[.finished]]) = true := by
  decide

/-! ## Calls, memory and text -/

theorem test_frame_header :
    parseHeader (Memory.ofBytes
        [0x10#8, 0#8, 0#8, 0#8, 0x20#8, 0#8, 0#8, 0#8, 0x3C#8, 0#8, 0#8, 0#8, 0x40#8, 0#8, 0#8, 0#8]) =
      { tsSec := 16#32, tsUsec := 32#32, capturedLength := 60#32, originalLength := 64#32 } := by decide
theorem test_buffer_short :
    fails .bufferShort 0 (step
      { State.reset with
        calls := [.decode 0#3 (Memory.place [] 8 [60#8]) { cells := [], len := 59 }] }) = true := by decide
theorem test_span_lifetime :
    (let s := { at' [1, 2, 3, 4] 0 0 0 with mode := .deliverNet (.unknown 0x88CC#16) }
     after (step s) (fun t => t.spanBytes 0 (.span 1 9 3) == some [2#8, 3#8, 4#8]
       && t.spanBytes 1 (.span 1 9 3) == none)) = true := by decide
theorem test_memory_canonical :
    ((Memory.write [] 3 7#8).write 1 9#8).write 3 0#8 = [(1, 9#8)] ∧
    Memory.wf [(1, 9#8), (1, 8#8)] = false ∧ Memory.wf [(1, 0#8)] = false := by decide
theorem test_render_addresses :
    renderIpv6 ([0x20#8, 0x01#8, 0x0D#8, 0xB8#8] ++ List.replicate 11 0#8 ++ [1#8]) =
      "2001:0db8:0000:0000:0000:0000:0000:0001" ∧
    renderIpv4 [192#8, 168#8, 0#8, 104#8] = "192.168.0.104" := by decide
theorem test_render_icmp_and_names :
    renderIcmp { icmpType := 0#8, icmpCode := 0#8, checksum := 0xFFFF#16, checksumStatus := .unchecked } =
      "type=0 code=0" ∧
    renderName [[0x6E#8, 0x73#8, 0x31#8], [0x63#8, 0x6F#8, 0x6D#8]] = "ns1.com" ∧ renderName [] = "." := by
  decide

/-! ## Witnesses: each theorem shows a state and operands that meet the hypotheses of the statement it is
named after, one conjunct for each clause, at the ends of the ranges -/

/-- A step answers a next state. -/
def goesOn (o : Out) : Bool := after o (fun _ => true)

theorem witness_StepRunsDecodedRow :
    (let s := State.reset.placeSelector (.ipproto 6#8)
     s.mode = .row ∧ decode s.cfg s.ctx.sel = .ok .pTcp) ∧
    (let s := inArea [2, 4, 0x05, 0xB4] 4
     s.mode = .options ∧ s.work.cur < s.ctx.optend ∧ s.readable s.work.cur 1 = true ∧
     decode s.cfg (.tcpopt (s.u8 s.work.cur)) = .ok .optMss) ∧
    (let s := inDns [9, 0] 1
     s.mode = .name ∧ s.dnsReadable s.work.dns.cur 1 = true ∧
     decode s.cfg (.dnslabel (s.u8 s.work.dns.cur)) = .ok .dnsTerm) ∧
    (let s := watching (flow .estab) (seg client server 0x011#9 1 0 0)
     s.mode = .observe ∧ s.obs.map Observation.row = some (some .fin) ∧
     decode s.cfg (.tcpclass .fin 0x011#9) = .ok (.segFin 0x011#9)) := by decide
theorem witness_DecodeOfEncode :
    Instr.wf Config.standard (.udpPlain 5353#16 1024#16) = true ∧
    Instr.wf Config.standard (.etLenHi 1535#16) = true ∧
    Instr.wf Config.standard (.dnsLabel 63#6) = true ∧
    Instr.wf Config.standard (.segFin 0x1FF#9) = true := by decide
theorem witness_EncodeOfDecode :
    decode Config.standard (.ethertype 1536#16) = .ok (.etUnknown 1536#16) ∧
    decode Config.standard (.tcpclass .synAck 0x1FF#9) = .ok (.segSynAck 0x1FF#9) := by decide
theorem witness_FirstMatchingRow :
    (Selector.udpport 0x00350035#32).table ≠ .tcpclass ∧
    decode Config.standard (.udpport 0x00350035#32) = .ok (.udpDnsSrc 53#16) ∧
    decode Config.standard (.tcpclass .ack 0x010#9) = .ok (.segAck 0x010#9) := by decide
theorem witness_RequestStart :
    (let call (n : Nat) : Call := .decode 2#3 (Memory.place [] 8 [60#8]) { cells := [], len := n }
     let s (n : Nat) : State := { State.reset with calls := [call n] }
     (s 60).mode = .idle ∧ (s 60).calls = call 60 :: [] ∧
     (parseHeader (Memory.place [] 8 [60#8])).capturedLength.toNat ≤ 60 ∧
     59 < (parseHeader (Memory.place [] 8 [60#8])).capturedLength.toNat) := by decide
theorem witness_NullFamily :
    ((0#8 : Byte) = 0#8 ∧ (0#8 : Byte) = 0#8) ∧ ¬((0#8 : Byte) = 0#8 ∧ (2#8 : Byte) = 0#8) := by decide
theorem witness_EthernetResult :
    (let s := at' (etherBytes ++ [8, 6]) 0 0 0
     Config.tooDeep s.cfg (s.ctx.depth + 1) = false ∧ s.readable 0 14 = true ∧
     s.readable 0 15 = false ∧ s.u16 12 ≠ s.cfg.vlanTpid) ∧
    (let s := at' (etherBytes ++ [0x81, 0, 0, 1, 8, 6]) 0 0 0
     Config.tooDeep s.cfg (s.ctx.depth + 1) = false ∧ s.readable 0 18 = true ∧
     s.readable 0 19 = false ∧ s.u16 12 = s.cfg.vlanTpid) := by decide
theorem witness_NullAndSllResult :
    (let s := at' (List.replicate 4 0) 0 0 0
     Config.tooDeep s.cfg (s.ctx.depth + 1) = false ∧ s.readable 0 4 = true) ∧
    (let s := at' (List.replicate 16 0) 0 0 0
     Config.tooDeep s.cfg (s.ctx.depth + 1) = false ∧ s.readable 0 16 = true) := by decide
theorem witness_LlcAndUnknownResult :
    (let s := at' [0xAA, 0xAA] 0 0 0
     Config.tooDeep s.cfg (s.ctx.depth + 1) = false ∧ s.readable 0 2 = true) ∧
    (let s := at' (List.replicate 8 0) 0 0 0
     s.readable s.ctx.off 8 = true) := by decide
theorem witness_Ipv4Result :
    (let s := at' ([0x45, 0, 0, 20] ++ List.replicate 16 0) 0 0 0
     Config.tooDeep s.cfg (s.ctx.depth + 1) = false ∧ s.readable 0 20 = true ∧
     s.readable 0 21 = false ∧ ((s.u8 0).extractLsb' 0 4).toNat = 5 ∧
     ((s.u8 0).extractLsb' 0 4).toNat * 4 = (s.u16 2).toNat ∧ s.work.next = 0) := by decide
theorem witness_Ipv6Result :
    (let s := at' ipv6Bytes 0 0 0
     Config.tooDeep s.cfg (s.ctx.depth + 1) = false ∧ s.readable s.work.next 40 = true ∧
     s.cfg.ipv6RemainingBasis = .absolute) ∧
    (let s := { at' ipv6Bytes 0 0 0 with
                  cfg := { Config.standard with ipv6RemainingBasis := .relative } }
     Config.tooDeep s.cfg (s.ctx.depth + 1) = false ∧ s.readable s.work.next 40 = true ∧
     s.cfg.ipv6RemainingBasis ≠ .absolute) := by decide
theorem witness_ExtensionResult :
    (let s := at' [59, 255] 0 0 2048
     Config.tooDeep s.cfg (s.ctx.depth + 1) = false ∧ s.readable s.work.next 2 = true ∧
     ((((s.u8 (s.work.next + 1)).toNat + 1) * 8 : Nat) : Int) ≤ s.ctx.rem) := by decide
theorem witness_NoNextResult :
    (let s (rem : Int) := at' [] 0 54 rem
     Config.tooDeep (s 0).cfg ((s 0).ctx.depth + 1) = false ∧ (s 0).ctx.rem = 0 ∧
     (s (-1)).ctx.rem ≠ 0 ∧ (s 1).ctx.rem ≠ 0) := by decide
theorem witness_ArpResult :
    (let s := at' arpBytes 0 0 0
     Config.tooDeep s.cfg (s.ctx.depth + 1) = false ∧ s.readable s.work.next 28 = true ∧
     s.u8 (s.work.next + 4) = 6#8 ∧ s.u8 (s.work.next + 5) = 4#8) := by decide
theorem witness_IcmpAndIgmpResult :
    (let s (n : Nat) := at' (List.replicate n 0) 0 0 0
     Config.tooDeep (s 4).cfg ((s 4).ctx.depth + 1) = false ∧ (s 4).readable (s 4).work.next 4 = true ∧
     (s 8).readable (s 8).work.next 8 = true) := by decide
theorem witness_IgmpVersions :
    (at' [] 0 0 0).cfg = Config.standard ∧
    decode (at' [] 0 0 0).cfg (.igmptype 0x22#8) = .ok .igmpV3Report ∧
    decode (at' [] 0 0 0).cfg (.igmptype 0x23#8) = .ok (.igmpOther 0x23#8) := by decide
theorem witness_TcpResult :
    (let s := at' tcpBytes 0 0 20
     Config.tooDeep s.cfg (s.ctx.depth + 1) = false ∧ s.readable s.work.next 20 = true ∧
     20 ≤ ((s.u8 (s.work.next + 12)).extractLsb' 4 4).toNat * 4) ∧
    (let s := inArea [] 0
     let withRem (rem : Int) : State :=
       { s with ctx := { s.ctx with rem := rem }
                work := { s.work with tcp := { TcpRec.blank with headerLength := 20 } } }
     (withRem 19).mode = .options ∧ (withRem 19).ctx.optend ≤ (withRem 19).work.cur ∧
     (withRem 19).ctx.rem < ((withRem 19).work.tcp.headerLength : Int) ∧
     (withRem 20).ctx.rem = ((withRem 20).work.tcp.headerLength : Int) ∧
     0 < 1 ∧ (withRem 21).ctx.rem = ((withRem 21).work.tcp.headerLength : Int) + ((1 : Nat) : Int)) := by
  decide
theorem witness_OptionResult :
    (let ok (l : List Nat) (n k : Nat) : Prop :=
       (inArea l n).work.cur + n ≤ (inArea l n).ctx.optend ∧
       (inArea l n).readable (inArea l n).work.cur n = true ∧
       (inArea l n).u8 ((inArea l n).work.cur + 1) = BitVec.ofNat 8 k
     ok [2, 4, 0, 0] 4 4 ∧ ok [3, 3, 7] 3 3 ∧ ok [4, 2] 2 2 ∧
     ok [8, 10, 0, 0, 0, 100, 0, 0, 0, 0] 10 10 ∧ ok [5, 10] 2 10 ∧ ok [254, 2] 2 2 ∧
     2 ≤ ((inArea [255, 2] 2).u8 1).toNat) := by
  refine ⟨?_, ?_, ?_, ?_, ?_, ?_, ?_⟩ <;> decide
theorem witness_SackResult :
    (inArea (List.replicate 10 0) 10).readable 0 10 = true ∧
    (inArea (List.replicate 10 0) 10).ctx.optend = 0 + (8 * 1 + 2) ∧
    (inArea (List.replicate 18 0) 17).readable 0 18 = true ∧
    (inArea (List.replicate 18 0) 17).ctx.optend < 0 + (8 * 2 + 2) ∧
    (inArea (List.replicate 26 0) 26).readable 0 26 = true ∧
    (inArea (List.replicate 34 0) 34).readable 0 34 = true := by decide
theorem witness_OptionTraps :
    (inArea [2] 1).ctx.optend < (inArea [2] 1).work.cur + 2 ∧
    (let s := inArea [2, 5] 2
     s.work.cur + 2 ≤ s.ctx.optend ∧ s.readable (s.work.cur + 1) 1 = true ∧
     s.u8 (s.work.cur + 1) ≠ 4#8 ∧ s.u8 (s.work.cur + 1) ≠ 3#8 ∧ s.u8 (s.work.cur + 1) ≠ 2#8 ∧
     s.u8 (s.work.cur + 1) ≠ 10#8 ∧ s.ctx.optend < s.work.cur + (s.u8 (s.work.cur + 1)).toNat) ∧
    (let s := inArea [254, 1] 2
     s.work.cur + 2 ≤ s.ctx.optend ∧ s.readable (s.work.cur + 1) 1 = true ∧
     (s.u8 (s.work.cur + 1)).toNat < 2) ∧
    (let s := inArea [2] 2
     s.work.cur + 2 ≤ s.ctx.optend ∧ s.readable (s.work.cur + 1) 1 = false) ∧
    (let s := inArea [] 1
     s.mode = .options ∧ s.work.cur < s.ctx.optend ∧ s.readable s.work.cur 1 = false) ∧
    (let cut (l : List Nat) (n : Nat) (size : Byte) (a k : Nat) : Bool :=
       let s := inArea l n
       s.readable (s.work.cur + 1) 1 && s.u8 (s.work.cur + 1) == size
         && decide (s.work.cur + n ≤ s.ctx.optend) && !s.readable (s.work.cur + a) k
     cut [2, 4, 0] 4 4#8 2 2 = true ∧ cut [3, 3] 3 3#8 2 1 = true ∧
     cut [8, 10, 0, 0, 0] 10 10#8 2 4 = true ∧ cut [8, 10, 0, 0, 0, 0, 0, 0, 0] 10 10#8 6 4 = true ∧
     (inArea [8, 10, 0, 0, 0, 0, 0, 0, 0] 10).readable 2 4 = true) ∧
    (let s := inArea ([5, 34] ++ List.replicate 31 0) 34
     (4, Instr.sack4) ∈ [(1, Instr.sack1), (2, Instr.sack2), (3, Instr.sack3), (4, Instr.sack4)] ∧
     s.work.cur + (8 * 4 + 2) ≤ s.ctx.optend ∧ 7 < 2 * 4 ∧
     s.readable (s.work.cur + 2) (4 * 7) = true ∧ s.readable (s.work.cur + 2 + 4 * 7) 4 = false) ∧
    (let s := inArea [5, 10, 0, 0, 0] 10
     s.work.cur + (8 * 1 + 2) ≤ s.ctx.optend ∧ s.readable (s.work.cur + 2 + 4 * 0) 4 = false) := by
  decide
theorem witness_UdpResult :
    (let s := at' [0, 1, 0, 2, 0, 8, 0, 0] 0 0 0
     Config.tooDeep s.cfg (s.ctx.depth + 1) = false ∧ s.readable s.work.next 8 = true ∧
     8 ≤ (s.u16 (s.work.next + 4)).toNat) := by decide
theorem witness_UdpPortRows :
    (let e (n : Nat) : Nat :=
       min ((inUdp dnsHeader n).ctx.off + 8 + ((inUdp dnsHeader n).work.udp.length.toNat - 8))
         (inUdp dnsHeader n).req.blen
     let p : Nat := (inUdp dnsHeader 20).ctx.off + 8
     p + 12 ≤ e 20 ∧ e 8 < p + 2 * 0 + 2 ∧ e 9 < p + 2 * 0 + 2 ∧
     (p + 2 * 5 ≤ e 19 ∧ e 19 < p + 2 * 5 + 2) ∧ (p + 2 * 1 ≤ e 10 ∧ e 10 < p + 2 * 1 + 2)) := by decide
theorem witness_NameRows :
    (let s := inDns [3, 0x61, 0x62, 0x63] 0
     s.work.dns.cur + 1 + (3#6 : BitVec 6).toNat ≤ s.ctx.dnsend ∧
     s.readable (s.work.dns.cur + 1) (3#6 : BitVec 6).toNat = true ∧
     s.ctx.dnsend < s.work.dns.cur + 1 + (4#6 : BitVec 6).toNat) ∧
    (let s := inDns [7, 0xC0] 2
     s.mode = .name ∧ s.dnsReadable s.work.dns.cur 1 = false) ∧
    (inDns [7, 0xC0] 1).dnsReadable ((inDns [7, 0xC0] 1).work.dns.cur + 1) 1 = false ∧
    (let s := inDns [0xC0, 0] 0
     let hop (n : Nat) : State := { s with ctx := { s.ctx with hops := n } }
     (hop 4).dnsReadable ((hop 4).work.dns.cur + 1) 1 = true ∧
     (hop 4).ctx.hops + 1 ≤ (hop 4).cfg.dnsMaxPtrHops ∧
     (hop 5).cfg.dnsMaxPtrHops < (hop 5).ctx.hops + 1) := by decide
theorem witness_RecordRows :
    (let s := inRecord (List.replicate 4 0) 0 4
     s.work.dns.rr.rdlength = 4#16 ∧ s.work.dns.rdStart + 4 ≤ s.ctx.dnsend ∧
     s.readable s.work.dns.rdStart 4 = true) ∧
    (let s := inRecord (List.replicate 3 0) 0 4
     s.work.dns.rr.rdlength = 4#16 ∧ s.ctx.dnsend < s.work.dns.rdStart + 4) ∧
    (let s := inRecord (List.replicate 15 0) 0 16
     s.work.dns.rr.rdlength = 16#16 ∧ s.readable s.work.dns.rdStart 16 = false) ∧
    (inRecord [] 0 5).work.dns.rr.rdlength ≠ 4#16 ∧
    (let s := inRecord (List.replicate 16 0) 0 16
     s.work.dns.rr.rdlength = 16#16 ∧ s.work.dns.rdStart + 16 ≤ s.ctx.dnsend ∧
     s.readable s.work.dns.rdStart 16 = true) ∧
    (inRecord [] 0 15).work.dns.rr.rdlength ≠ 16#16 := by decide

/-- A DNS name that is complete, with its cursor at 0, in a message that fills the buffer. -/
def named (l : List Nat) (u : NameUse) : State :=
  let s := inDns l 0
  { s with mode := .afterName, work := { s.work with dns := { s.work.dns with nameUse := u } } }

theorem witness_AfterName :
    (let s := named [0, 1, 0, 1] .question
     s.mode = .afterName ∧ s.work.dns.nameUse = .question ∧ s.ctx.dnsbase ≤ s.work.dns.cursor ∧
     s.work.dns.cursor + 4 ≤ s.ctx.dnsend ∧ s.readable s.work.dns.cursor 4 = true) ∧
    (let s (rl : Nat) := named [0, 1, 0, 1, 0, 0, 0, 0, 0, rl, 7] .owner
     (s 1).mode = .afterName ∧ (s 1).work.dns.nameUse = .owner ∧
     (s 1).ctx.dnsbase ≤ (s 1).work.dns.cursor ∧ (s 1).work.dns.cursor + 10 ≤ (s 1).ctx.dnsend ∧
     (s 1).readable (s 1).work.dns.cursor 10 = true ∧
     (s 1).work.dns.cursor + 10 + ((s 1).u16 ((s 1).work.dns.cursor + 8)).toNat ≤ (s 1).ctx.dnsend ∧
     (s 2).ctx.dnsend < (s 2).work.dns.cursor + 10 + ((s 2).u16 ((s 2).work.dns.cursor + 8)).toNat) ∧
    (let s := named [0, 1, 0] .question
     s.work.dns.nameUse = .question ∧ s.dnsReadable (s.work.dns.cursor + 0) 2 = true ∧
     s.dnsReadable (s.work.dns.cursor + 2) 2 = false) ∧
    (named [0] .question).dnsReadable ((named [0] .question).work.dns.cursor + 0) 2 = false ∧
    (let s := named [0, 1, 0, 1, 0, 0, 0, 0, 0] .owner
     s.work.dns.nameUse = .owner ∧
     (∀ g ∈ [(0, 2), (2, 2), (4, 4), (8, 2)], g.1 < 8 →
       s.dnsReadable (s.work.dns.cursor + g.1) g.2 = true) ∧
     s.dnsReadable (s.work.dns.cursor + 8) 2 = false) ∧
    (named [] .nsData).work.dns.nameUse = .nsData := by decide

/-- The head of the section loops. -/
def inSections (d : DnsWork) : State :=
  let s := inDns [] 0
  { s with mode := .sections, work := { s.work with dns := d } }

theorem witness_SectionSteps :
    (let s := inSections DnsWork.empty
     s.mode = .sections ∧ s.work.dns.current = none ∧ s.work.dns.pending = []) ∧
    (let s (n : Nat) := inSections
       { DnsWork.empty with
         pending := [.answer, .authority]
         msg := { DnsMsg.blank with ancount := BitVec.ofNat 16 n } }
     (s 101).work.dns.current = none ∧ (s 101).work.dns.pending = .answer :: [.authority] ∧
     (s 101).cfg.dnsRrCeiling < ((s 101).work.dns.msg.count .answer).toNat ∧
     ((s 100).work.dns.msg.count .answer).toNat ≤ (s 100).cfg.dnsRrCeiling) ∧
    (let s (n : Nat) := inSections { DnsWork.empty with current := some .question, left := n }
     (s 1).work.dns.current = some .question ∧ 0 < (s 1).work.dns.left ∧ (s 0).work.dns.left = 0) := by
  decide
theorem witness_FrameDelivery :
    ({ at' [] 0 0 0 with mode := .deliverNet (.unknown 1#16) } : State).mode
      = .deliverNet (.unknown 1#16) ∧
    (let s : State := { at' [] 0 0 0 with mode := .deliverProto .noNext }
     s.mode = .deliverProto .noNext ∧ s.work.net = some (.ipv4 (placedIpv4 6#8))) ∧
    (let h : Ipv6Hdr :=
       { version := 6#4, trafficClass := 0#8, flowLabel := 0#20, payloadLength := 0#16
         nextHeader := 59#8, hopLimit := 64#8, src := [], dst := [] }
     let s : State := { at' [] 0 0 0 with
       mode := .deliverProto .noNext, work := { Work.empty with net := some (.ipv6 h) } }
     s.mode = .deliverProto .noNext ∧ s.work.net = some (.ipv6 h)) := by decide
theorem witness_HeaderTraps :
    (let s := at' [0x44] 0 0 0
     Config.tooDeep s.cfg (s.ctx.depth + 1) = false ∧ s.readable 0 1 = true ∧
     ((s.u8 0).extractLsb' 0 4).toNat < 5) ∧
    (let s := at' ([0x45, 0, 0, 19] ++ List.replicate 16 0) 0 0 0
     s.readable 0 20 = true ∧ 5 ≤ ((s.u8 0).extractLsb' 0 4).toNat ∧
     (s.u16 2).toNat < ((s.u8 0).extractLsb' 0 4).toNat * 4) ∧
    (let s := at' [59, 0] 0 0 7
     s.readable 0 2 = true ∧ s.ctx.rem < ((((s.u8 1).toNat + 1) * 8 : Nat) : Int)) ∧
    (let s := at' [0, 1, 8, 0, 6, 5, 0, 1] 0 0 0
     s.readable 0 8 = true ∧ ¬(s.u8 4 = 6#8 ∧ s.u8 5 = 4#8)) ∧
    (let s := at' (List.replicate 12 0 ++ [0x40, 0]) 0 0 0
     s.readable 0 14 = true ∧ ((s.u8 12).extractLsb' 4 4).toNat < 5) ∧
    (let s := at' [0, 0, 0, 0, 0, 7, 0, 0] 0 0 0
     s.readable 0 8 = true ∧ (s.u16 4).toNat < 8) := by decide
theorem witness_TruncatedAtFirstField :
    (let s := at' (tcpBytes.take 19) 0 0 0
     isHeaderRow .pTcp = true ∧ Config.tooDeep s.cfg (s.ctx.depth + 1) = false ∧
     (18, 2) ∈ headerFields .pTcp ∧ s.req.blen < headerStart .pTcp s + 18 + 2 ∧
     (∀ g ∈ headerFields .pTcp, g.1 < 18 → headerStart .pTcp s + g.1 + g.2 ≤ s.req.blen) ∧
     (headerCheck .pTcp s 0).2 = true) ∧
    (let s := at' [0x05] 0 0 0
     isHeaderRow .etArp = true ∧ (0, 2) ∈ headerFields .etArp ∧
     Config.tooDeep s.cfg (s.ctx.depth + 1) = false ∧ s.req.blen < headerStart .etArp s + 0 + 2 ∧
     0 ≤ (headerCheck .etArp s 0).1) ∧
    (let s (n : Nat) := at' (etherBytes ++ [0x81, 0x00] ++ List.replicate n 0) 0 0 0
     Config.tooDeep (s 1).cfg ((s 1).ctx.depth + 1) = false ∧ (s 1).readable 0 14 = true ∧
     (s 1).u16 12 = (s 1).cfg.vlanTpid ∧ (s 1).req.blen < 16 ∧ 16 ≤ (s 2).req.blen ∧
     (s 3).req.blen < 18) ∧
    (let s (n : Nat) := at' (List.replicate n 0) 0 8 0
     (s 2).req.blen < (s 2).ctx.off + 3 ∧ (s 3).ctx.off + 3 ≤ (s 3).req.blen ∧
     (s 7).req.blen < (s 7).ctx.off + 8) := by decide
theorem witness_DepthLimit :
    isHeaderRow .pNoNext = true ∧ (shallow (at' [] 0 0 0)).cfg.maxLayerDepth = some 1 ∧
    1 < (shallow (at' [] 0 0 0)).ctx.depth + 1 ∧ Config.standard.maxLayerDepth = none := by decide
theorem witness_RaiseEffect :
    (let s := at' [] 14 54 0
     let row (p : BitVec 8) : State := { s with ctx := { s.ctx with sel := .ipproto p } }
     (row 58#8).parsing = true ∧ (row 58#8).modeOk = true ∧ (row 58#8).ctx.status = .running ∧
     after (step (row 58#8)) (fun t => t.ctx.status == .fatal) = true ∧
     after (step (row 59#8)) (fun t => t.ctx.status == .running) = true) ∧
    (let s : State := { at' [] 0 0 0 with mode := .deliverProto .noNext }
     s.parsing = true ∧ s.modeOk = true ∧ s.ctx.status = .running ∧
     after (step s) (fun t => t.ctx.status == .ok) = true) := by decide
theorem witness_RegisterWriters :
    (let s := inArea [5, 10] 2
     after (exec .optSack s) (fun t => t.ctx.sel != s.ctx.sel) = true) ∧
    (let s := at' ipv6Bytes 9 0 0
     after (exec .pIpv6 s) (fun t => t.ctx.off != s.ctx.off && t.ctx.depth != s.ctx.depth) = true) ∧
    (let s := at' [6, 0] 0 0 28
     after (exec .pExt0 s) (fun t => t.ctx.rem != s.ctx.rem) = true) ∧
    (let s := inDns [0xC0, 0] 0
     after (exec (.dnsPtr 0#6) s) (fun t => t.ctx.hops != s.ctx.hops) = true) ∧
    (let s := inUdp dnsHeader 20
     after (exec (.udpDnsSrc 0#16) s)
       (fun t => t.ctx.dnsbase != s.ctx.dnsbase && t.ctx.dnsend != s.ctx.dnsend) = true) ∧
    (let s := at' tcpBytes 0 0 20
     after (exec .pTcp s) (fun t => t.ctx.optend != s.ctx.optend) = true) ∧
    (let s := inRecord [] 0 5
     after (exec .rrAIn s) (fun t => t.ctx.diag != s.ctx.diag) = true) ∧
    (let s := at' [] 0 0 0
     after (exec (.ltOther 5#3) s) (fun t => t.ctx.status != s.ctx.status) = true) := by decide
theorem witness_ParserRowFrame :
    isParserRow .rrNsIn = true ∧ goesOn (exec .rrNsIn (inRecord [1, 0x61, 0] 0 3)) = true ∧
    isParserRow (.pUnknown 58#8) = true ∧ goesOn (exec (.pUnknown 58#8) (at' [] 0 0 0)) = true := by decide
theorem witness_TrackerRowFrame :
    isParserRow (.segFin 0x011#9) = false ∧
    goesOn (exec (.segFin 0x011#9)
      (watching (flow .estab) (seg client server 0x011#9 1 0 0))) = true := by decide
theorem witness_FlowKeyUnordered : flowKey server client = flowKey client server := by decide
theorem witness_SegmentFilter :
    (let f := frameOf (seg client server 0x010#9 1 0 5)
     segmentOf Config.standard f = some (seg client server 0x010#9 1 0 5)) ∧
    (let t := (seg client server 0x010#9 1 0 5).tcp
     let h : Ipv6Hdr :=
       { version := 6#4, trafficClass := 0#8, flowLabel := 0#20, payloadLength := 0#16
         nextHeader := 6#8, hopLimit := 64#8, src := [], dst := [] }
     let f : DecodedFrame :=
       { frameOf (seg client server 0x010#9 1 0 5) with
         payload := { hdr := .raw, payload := .ipv6 h (.tcp t) } }
     f.payload.payload = .ipv6 h (.tcp t) ∧ segmentOf Config.standard f = none ∧
     (segmentOf { Config.standard with trackIpv6 := true } f).isSome = true) := by decide
theorem witness_ObserveStart :
    (let s (cap : Option Nat) (reg : List (FlowKey × TcpFlow)) (f : DecodedFrame) : State :=
       { State.reset with
         cfg := { Config.standard with flowCapacity := cap }, registry := reg, calls := [.observe f] }
     let f := frameOf (seg client server 0x010#9 1 0 5)
     let other : DecodedFrame := { f with payload := { hdr := .raw, payload := .unknown 1#16 } }
     let k := flowKey client server
     let k' := flowKey client client
     (s none [] other).mode = .idle ∧ (s none [] other).calls = .observe other :: [] ∧
     segmentOf (s none [] other).cfg other = none ∧
     segmentOf (s none [] f).cfg f = some (seg client server 0x010#9 1 0 5) ∧
     mapFind (s none [(k, flow .estab)] f).registry k = some (flow .estab) ∧
     mapFind (s (some 1) [] f).registry k = none ∧ (s (some 1) [] f).registry.length < 1 ∧
     mapFind (s (some 1) [(k', newFlow k')] f).registry k = none ∧
     1 ≤ (s (some 1) [(k', newFlow k')] f).registry.length) := by decide
theorem witness_SynRowResult :
    (let s := watching (flow .estab) (seg client server 0x002#9 1 0 0)
     s.obs.isSome = true ∧ (flow .estab).fresh = false) ∧
    (let fl := newFlow (flowKey client server)
     (watching fl (seg client server 0x002#9 1 0 0)).obs.isSome = true ∧ fl.fresh = true ∧
     fl.state = .closed) := by decide
theorem witness_HandshakeRowResult :
    ((0x012#9 : BitVec 9) &&& 0x012#9 = 0x012#9 ∧ (flow .synSent).state = .synSent ∧
      (flow .synSent).dst = some (seg server client 0x012#9 1 0 0).src) ∧
    ((0x010#9 : BitVec 9) &&& 0x010#9 = 0x010#9 ∧ (flow .synRecv).state = .synRecv ∧
      (flow .synRecv).src = some (seg client server 0x010#9 1 0 0).src) := by decide
theorem witness_FinRowResult :
    ((0x011#9 : BitVec 9) &&& 0x001#9 = 0x001#9 ∧ (0x011#9 : BitVec 9) &&& 0x012#9 ≠ 0x002#9) ∧
    (flow .estab).src = some (seg client server 0x011#9 1 0 0).src ∧
    ((flow .estab).src ≠ some (seg server client 0x011#9 1 0 0).src ∧
      (flow .estab).dst = some (seg server client 0x011#9 1 0 0).src) ∧
    ((flow .finWait).state = .finWait ∧
      (flow .finWait).dst = some (seg server client 0x011#9 1 0 0).src) ∧
    ((flow .closeWait).state = .closeWait ∧
      (flow .closeWait).src = some (seg client server 0x011#9 1 0 0).src) := by decide
theorem witness_DataAndAcks :
    (let s (n : Nat) := seg client server 0x010#9 1001 0 n
     let c : DirectionalCounters :=
       { DirectionalCounters.zero with
         packets := [(1002, { sec := 1#32, usec := 0#32 })], retrans := [(1002, 0)] }
     (s 0).payloadBytes = 0 ∧ 0 < (s 1).payloadBytes ∧
     mapFind c.packets (((s 1).tcp.seqno.toNat + (s 1).payloadBytes) % 2 ^ 32) =
       some { sec := 1#32, usec := 0#32 } ∧
     mapFind c.retrans (((s 1).tcp.seqno.toNat + (s 1).payloadBytes) % 2 ^ 32) = some 0 ∧
     mapFind c.packets (((s 2).tcp.seqno.toNat + (s 2).payloadBytes) % 2 ^ 32) = none) := by decide
theorem witness_TransitionTable :
    ((classesOf 0x002#9).synNoAck = true ∧ (flow .closed).fresh = false) ∧
    (¬((classesOf 0x010#9).synNoAck = true ∧ (flow .closed).fresh = false) ∧
      (flow .closed).state = .closed) ∧
    ((newFlow (flowKey client server)).fresh = true ∧ (classesOf 0x002#9).synNoAck = true) ∧
    ((flow .synSent).dst = some server ∧ (classesOf 0x012#9).synAck = true) ∧
    ((flow .synRecv).src = some client ∧ (classesOf 0x010#9).ack = true) ∧
    ((flow .estab).src ≠ some server ∧ (flow .estab).dst = some server) ∧
    ((flow .estab).src ≠ some { server with port := 81#16 } ∧
      (flow .estab).dst ≠ some { server with port := 81#16 }) ∧
    (flow .lastAck).dst = some server ∧ (flow .lastAck).dst ≠ some client ∧
    (flow .closing).src = some client ∧ (flow .closing).src ≠ some server ∧
    ((flow .finWait).dst = some server ∧ (classesOf 0x001#9).fin = true) ∧
    ((flow .closeWait).src = some client ∧ (classesOf 0x001#9).fin = true) ∧
    ¬((flow .synSent).dst = some client ∧ (classesOf 0x012#9).synAck = true) ∧
    ¬((flow .synRecv).src = some client ∧ (classesOf 0x002#9).ack = true) := by decide
theorem witness_ObserveEnd :
    (let s (st : FlowState) := watching (flow st) (seg client server 0x010#9 1 0 5)
     (s .estab).mode = .observe ∧ (s .estab).safe = true ∧ (s .estab).obs.isSome = true ∧
     (s .closing).safe = true ∧
     (flowStep 32 (classesOf 0x010#9) (flow .closing) (seg client server 0x010#9 1 0 5)).ended = true ∧
     (flowStep 32 (classesOf 0x010#9) (flow .estab) (seg client server 0x010#9 1 0 5)).ended = false) := by
  decide
theorem witness_NonMatchingNever :
    (let s := watching (flow .estab) (seg server client 0x010#9 1 0 5)
     s.safe = true ∧ after (step s) (fun t => t.observed.length == 1) = true) := by decide
theorem witness_MemoryKeptCanonical :
    (let s : State :=
       { State.reset with calls := [.decode 0#3 [(8, 2#8)] { cells := [(1, 7#8)], len := 2 }] }
     s.memoryCanonical = true ∧ goesOn (step s) = true) := by decide
theorem witness_SafetyKept :
    (let s := at' (etherBytes ++ [8, 6]) 0 0 0
     s.safe = true ∧ after (step s) (fun t => t.safe && t.ctx.depth == 1) = true) ∧
    (let s := watching (flow .estab) (seg client server 0x011#9 1 0 5)
     s.safe = true ∧ after (step s) State.safe = true) := by decide
theorem witness_RecordsKept :
    (let s := at' (etherBytes ++ [8, 6]) 0 0 0
     s.safe = true ∧ s.recordsSized = true ∧ after (step s) State.recordsSized = true) := by decide
theorem witness_Progress : (inDns [0xC0, 0] 0).safe = true := by decide
theorem witness_ParserIsPure :
    (let s := at' (etherBytes ++ [8, 6]) 0 0 0
     s.parsing = true ∧ s.mode = .row ∧ s.ctx.sel.table ≠ .tcpclass ∧ goesOn (step s) = true) := by decide
theorem witness_InvisibleBytes :
    (let s := at' (etherBytes ++ [8, 6]) 0 0 0
     let m := s.req.buf.cells.write 14 9#8
     s.mode ≠ .idle ∧ m ≠ s.req.buf.cells ∧
     (∀ a, a < s.req.blen → m.read a = s.req.buf.cells.read a)) := by decide
theorem witness_RequestEnds :
    (let s := at' (etherBytes ++ [8, 6]) 0 0 0
     s.safe = true ∧ s.parsing = true) := by decide

end Sys2Proof.Tests
end

section
/-! SUPPORT. The values after reset (R6, R53, R54) and the bounded reads (R84). -/

namespace Sys2Proof.Machine

/-- Settles O6: each field of the reset state is the value that R6, R53 and R54 list, by
definition. -/
theorem resetValues : Obligations.ResetValues :=
  ⟨rfl, rfl, rfl, rfl, rfl, rfl, rfl, rfl, rfl, rfl, rfl, rfl, rfl⟩

/-- A byte string in closed form: the bytes at `a`, `a + 1`, and so on. -/
theorem Memory.slice_eq_map (m : Memory) (a n : Nat) :
    m.slice a n = (List.range n).map (fun i => m.read (a + i)) := by
  induction n generalizing a with
  | zero => rfl
  | succ n ih =>
    have hshift : ∀ i, a + 1 + i = a + (i + 1) := fun i => by omega
    simp [Memory.slice, ih, List.range_succ_eq_map, Function.comp_def, hshift]

/-- The 16-bit read assembles two bytes, the lower offset more significant (R83). -/
theorem State.u16_eq_reads (s : State) (a : Nat) :
    s.u16 a = BitVec.ofNat 16
      ((s.req.buf.cells.read a).toNat * 256 + (s.req.buf.cells.read (a + 1)).toNat) := by
  simp [State.u16, Memory.slice, bigEndian]

/-- The 32-bit read assembles four bytes, the lowest offset most significant (R83). -/
theorem State.u32_eq_reads (s : State) (a : Nat) :
    s.u32 a = BitVec.ofNat 32
      ((((s.req.buf.cells.read a).toNat * 256 + (s.req.buf.cells.read (a + 1)).toNat) * 256
        + (s.req.buf.cells.read (a + 2)).toNat) * 256 + (s.req.buf.cells.read (a + 3)).toNat) := by
  simp [State.u32, Memory.slice, bigEndian]

/-- The bound check fails exactly when the test that R84 writes holds. -/
theorem State.readable_eq_false (s : State) (a n : Nat) :
    s.readable a n = false ↔ a + n > s.req.blen := by
  simp [State.readable]

/-- The bound check passes when the test of R84 does not hold. -/
theorem State.readable_of_not_past {s : State} {a n : Nat} (h : ¬ a + n > s.req.blen) :
    s.readable a n = true := by
  simpa [← State.readable_eq_false] using h

/-- Settles O10: each read is split at the bound check, and inside it the value is the assembly of
its bytes. -/
theorem boundedReads : Obligations.BoundedReads := by
  unfold Obligations.BoundedReads
  intro s a n
  refine ⟨fun k => ?_, fun k => ?_, fun k => ?_, fun k => ?_⟩
  · split
    · next past => exact rd8_truncated s a k ((s.readable_eq_false a 1).2 past)
    · next inside =>
      rw [rd8_ok s a k (State.readable_of_not_past inside), s.u8_eq_read]
      simp
  · split
    · next past => exact rd16_truncated s a k ((s.readable_eq_false a 2).2 past)
    · next inside =>
      rw [rd16_ok s a k (State.readable_of_not_past inside), s.u16_eq_reads]
      rfl
  · split
    · next past => exact rd32_truncated s a k ((s.readable_eq_false a 4).2 past)
    · next inside =>
      rw [rd32_ok s a k (State.readable_of_not_past inside), s.u32_eq_reads]
      rfl
  · split
    · next past => exact rdBytes_truncated s a n k ((s.readable_eq_false a n).2 past)
    · next inside =>
      rw [rdBytes_ok s a n k (State.readable_of_not_past inside), State.bytes,
        Memory.slice_eq_map]

end Sys2Proof.Machine
end

section
/-! SUPPORT. A step of a request with another tracker and other earlier responses behind it (R2, R471,
R30). `Alike` says of two outcomes, one for each background, that they are the same step: both go on
to a next state, the two states differ in the background alone, and each background is kept or has
one and the same response appended. There is one rule for each shared operation, and one lemma for
each decoder; the rows of the parser follow from them. -/

namespace Sys2Proof.Machine

/-! ## The background of a request -/

/-- What the state holds beside a request: the tracker, and what the calls before it returned. -/
structure Background where
  registry : List (FlowKey × TcpFlow)
  obs : Option Observation
  observed : List (List Signal)
  responses : List Response

/-- The background of a state. -/
def State.background (s : State) : Background :=
  { registry := s.registry, obs := s.obs, observed := s.observed, responses := s.responses }

/-- The same request in another background. -/
def State.against (s : State) (b : Background) : State :=
  { s with registry := b.registry, obs := b.obs, observed := b.observed, responses := b.responses }

/-- One more response. -/
def Background.answer (b : Background) (r : Response) : Background :=
  { b with responses := b.responses ++ [r] }

/-- The background is what the two updates of the statements replace. -/
theorem State.against_eq (s : State) (b : Background) :
    s.against b = (s.withTracker b.registry b.obs b.observed).withResponses b.responses := rfl

/-- Two outcomes, from the background `b` and from the background `c`, are the same step. -/
inductive Alike (b c : Background) : Out → Out → Prop
  /-- The request goes on, and each background is kept. -/
  | goesOn {t t' : State} (kept : t.background = b) (same : t' = t.against c) :
      Alike b c (.next t) (.next t')
  /-- The request ends: each background takes the same response. -/
  | answers {t t' : State} (r : Response) (kept : t.background = b.answer r)
      (same : t' = t.against (c.answer r)) : Alike b c (.next t) (.next t')

/-- Outcomes that are alike are next states. -/
theorem Alike.next {b c : Background} {x y : Out} (h : Alike b c x y) : ∃ t, x = .next t := by
  cases h with
  | goesOn => exact ⟨_, rfl⟩
  | answers => exact ⟨_, rfl⟩

/-! ## The shared operations

An operation of the request reads `cfg`, `req`, `ctx` and `work` only, so it passes on to what follows in
both backgrounds or ends both requests. In each rule `s` is the state that the operation runs in, which
differs from the state before the step by updates of the request, so `hs` holds by unfolding them. -/

section
variable {b c : Background} {s : State}

theorem ite_alike {p : Prop} [Decidable p] {x y x' y' : Out} (hx : Alike b c x x')
    (hy : Alike b c y y') : Alike b c (if p then x else y) (if p then x' else y') := by
  split
  · exact hx
  · exact hy

theorem raise_alike {code : FatalCode} {a : Nat} (hs : s.background = b := by rfl) :
    Alike b c (s.raise code a) ((s.against c).raise code a) := by
  subst hs
  exact .answers (.err code a s.ctx.diag) rfl rfl

theorem respond_alike {np : NetPayload} (hs : s.background = b := by rfl) :
    Alike b c (.next (s.respond np)) (.next ((s.against c).respond np)) := by
  subst hs
  exact .answers (.ok (s.frame np) s.ctx.diag) rfl rfl

theorem rd8_alike {a : Nat} {k k' : Byte → Out} (hk : ∀ v, Alike b c (k v) (k' v))
    (hs : s.background = b := by rfl) : Alike b c (rd8 s a k) (rd8 (s.against c) a k') :=
  ite_alike (hk _) (raise_alike hs)

theorem rd16_alike {a : Nat} {k k' : U16 → Out} (hk : ∀ v, Alike b c (k v) (k' v))
    (hs : s.background = b := by rfl) : Alike b c (rd16 s a k) (rd16 (s.against c) a k') :=
  ite_alike (hk _) (raise_alike hs)

theorem rd32_alike {a : Nat} {k k' : U32 → Out} (hk : ∀ v, Alike b c (k v) (k' v))
    (hs : s.background = b := by rfl) : Alike b c (rd32 s a k) (rd32 (s.against c) a k') :=
  ite_alike (hk _) (raise_alike hs)

theorem rdBytes_alike {a n : Nat} {k k' : Bytes → Out} (hk : ∀ v, Alike b c (k v) (k' v))
    (hs : s.background = b := by rfl) :
    Alike b c (rdBytes s a n k) (rdBytes (s.against c) a n k') :=
  ite_alike (hk _) (raise_alike hs)

theorem drd8_alike {a : Nat} {k k' : Byte → Out} (hk : ∀ v, Alike b c (k v) (k' v))
    (hs : s.background = b := by rfl) : Alike b c (drd8 s a k) (drd8 (s.against c) a k') :=
  ite_alike (hk _) (raise_alike hs)

theorem drd16_alike {a : Nat} {k k' : U16 → Out} (hk : ∀ v, Alike b c (k v) (k' v))
    (hs : s.background = b := by rfl) : Alike b c (drd16 s a k) (drd16 (s.against c) a k') :=
  ite_alike (hk _) (raise_alike hs)

theorem drd32_alike {a : Nat} {k k' : U32 → Out} (hk : ∀ v, Alike b c (k v) (k' v))
    (hs : s.background = b := by rfl) : Alike b c (drd32 s a k) (drd32 (s.against c) a k') :=
  ite_alike (hk _) (raise_alike hs)

theorem dbytes_alike {a n : Nat} {k k' : Bytes → Out} (hk : ∀ v, Alike b c (k v) (k' v))
    (hs : s.background = b := by rfl) :
    Alike b c (dbytes s a n k) (dbytes (s.against c) a n k') :=
  ite_alike (rdBytes_alike hk hs) (raise_alike hs)

theorem enter_alike {a : Nat} {k k' : State → Out}
    (hk : Alike b c (k (s.entered a)) (k' ((s.entered a).against c)))
    (hs : s.background = b := by rfl) : Alike b c (enter s a k) (enter (s.against c) a k') :=
  ite_alike (raise_alike hs) hk

theorem optLen_alike {k k' : Byte → Out} (hk : ∀ v, Alike b c (k v) (k' v))
    (hs : s.background = b := by rfl) : Alike b c (optLen s k) (optLen (s.against c) k') :=
  ite_alike (rd8_alike hk hs) (raise_alike hs)

theorem fits_alike {l : Nat} {k k' : Out} (hk : Alike b c k k')
    (hs : s.background = b := by rfl) : Alike b c (fits s l k) (fits (s.against c) l k') :=
  ite_alike hk (raise_alike hs)

theorem optFixed_alike {size : Byte} {k k' : Out} (hk : Alike b c k k')
    (hs : s.background = b := by rfl) :
    Alike b c (optFixed s size k) (optFixed (s.against c) size k') :=
  optLen_alike (fun _ => ite_alike (raise_alike hs) hk) hs

theorem sackPairs_alike {a n : Nat} {k k' : List (U32 × U32) → Out}
    (hk : ∀ l, Alike b c (k l) (k' l)) (hs : s.background = b := by rfl) :
    Alike b c (sackPairs s a n k) (sackPairs (s.against c) a n k') := by
  induction n generalizing a k k' with
  | zero => exact hk []
  | succ n ih =>
    exact rd32_alike (fun _ => rd32_alike (fun _ => ih fun _ => hk _) hs) hs

end

/-! ## The decoders -/

section
variable (s : State) (c : Background)

theorem decodeEthernet_alike (o : Nat) :
    Alike s.background c (decodeEthernet s o) (decodeEthernet (s.against c) o) :=
  enter_alike <| rdBytes_alike fun _ => rdBytes_alike fun _ => rd16_alike fun _ =>
    ite_alike (rd16_alike fun _ => rd16_alike fun _ => .goesOn rfl rfl) (.goesOn rfl rfl)

theorem decodeNull_alike (o : Nat) :
    Alike s.background c (decodeNull s o) (decodeNull (s.against c) o) :=
  enter_alike <| rdBytes_alike fun _ => .goesOn rfl rfl

theorem decodeSll_alike (o : Nat) :
    Alike s.background c (decodeSll s o) (decodeSll (s.against c) o) :=
  enter_alike <| rd16_alike fun _ => rd16_alike fun _ => rd16_alike fun _ =>
    rdBytes_alike fun _ => rd16_alike fun _ => .goesOn rfl rfl

theorem decodeLlc_alike (o : Nat) :
    Alike s.background c (decodeLlc s o) (decodeLlc (s.against c) o) :=
  enter_alike <| rd8_alike fun _ => rd8_alike fun _ => .goesOn rfl rfl

theorem llcRest_alike (dsap ssap : Byte) :
    Alike s.background c (llcRest s dsap ssap) (llcRest (s.against c) dsap ssap) :=
  rd8_alike fun _ => rd16_alike fun _ => .goesOn rfl rfl

/-- Where an IPv4 header is put may depend on the request alone, and must keep the background. -/
theorem decodeIpv4_alike (o : Nat) {push : State → Ipv4Hdr → State}
    (kept : ∀ u h, (push u h).background = u.background)
    (same : ∀ u h, push (u.against c) h = (push u h).against c) :
    Alike s.background c (decodeIpv4 s o push) (decodeIpv4 (s.against c) o push) := by
  refine enter_alike <| rd8_alike fun _ => ite_alike raise_alike <| rd8_alike fun _ =>
    rd16_alike fun _ => rd16_alike fun _ => rd16_alike fun _ => rd8_alike fun _ =>
    rd8_alike fun _ => rd16_alike fun _ => rdBytes_alike fun _ => rdBytes_alike fun _ =>
    ite_alike raise_alike <| .goesOn (kept _ _) ?_
  rw [same]
  rfl

/-- Where an IPv6 header is put may depend on the request alone, and must keep the background. -/
theorem decodeIpv6_alike (o : Nat) {push : State → Ipv6Hdr → State}
    (kept : ∀ u h, (push u h).background = u.background)
    (same : ∀ u h, push (u.against c) h = (push u h).against c) :
    Alike s.background c (decodeIpv6 s o push) (decodeIpv6 (s.against c) o push) := by
  refine enter_alike <| rd32_alike fun _ => rd16_alike fun _ => rd8_alike fun _ =>
    rd8_alike fun _ => rdBytes_alike fun _ => rdBytes_alike fun _ => .goesOn (kept _ _) ?_
  rw [same]
  rfl

theorem decodeNetIpv4_alike (o : Nat) :
    Alike s.background c (decodeIpv4 s o State.pushNetIpv4)
      (decodeIpv4 (s.against c) o State.pushNetIpv4) :=
  decodeIpv4_alike s c o (fun _ _ => rfl) (fun _ _ => rfl)

theorem decodeNetIpv6_alike (o : Nat) :
    Alike s.background c (decodeIpv6 s o State.pushNetIpv6)
      (decodeIpv6 (s.against c) o State.pushNetIpv6) :=
  decodeIpv6_alike s c o (fun _ _ => rfl) (fun _ _ => rfl)

theorem decodeExt_alike (p : Byte) :
    Alike s.background c (decodeExt s p) (decodeExt (s.against c) p) := by
  unfold decodeExt
  exact enter_alike <| rd8_alike fun _ => rd8_alike fun _ => ite_alike raise_alike <|
    .goesOn rfl rfl

theorem decodeNoNext_alike (o : Nat) :
    Alike s.background c (decodeNoNext s o) (decodeNoNext (s.against c) o) :=
  enter_alike <| ite_alike raise_alike <| .goesOn rfl rfl

theorem decodeArp_alike (o : Nat) :
    Alike s.background c (decodeArp s o) (decodeArp (s.against c) o) :=
  enter_alike <| rd16_alike fun _ => rd16_alike fun _ => rd8_alike fun _ => rd8_alike fun _ =>
    rd16_alike fun _ => ite_alike raise_alike <| rdBytes_alike fun _ => rdBytes_alike fun _ =>
    rdBytes_alike fun _ => rdBytes_alike fun _ => .goesOn rfl rfl

theorem decodeTcp_alike (o : Nat) :
    Alike s.background c (decodeTcp s o) (decodeTcp (s.against c) o) :=
  enter_alike <| rd16_alike fun _ => rd16_alike fun _ => rd32_alike fun _ => rd32_alike fun _ =>
    rd8_alike fun _ => rd8_alike fun _ => ite_alike raise_alike <| rd16_alike fun _ =>
    rd16_alike fun _ => rd16_alike fun _ => .goesOn rfl rfl

theorem tcpFinish_alike : Alike s.background c (tcpFinish s) (tcpFinish (s.against c)) :=
  ite_alike raise_alike <| ite_alike (.goesOn rfl rfl) (.goesOn rfl rfl)

theorem optExp_alike : Alike s.background c (optExp s) (optExp (s.against c)) :=
  optLen_alike fun _ => ite_alike raise_alike <| fits_alike <| .goesOn rfl rfl

theorem sackBlocks_alike (n : Nat) :
    Alike s.background c (sackBlocks s n) (sackBlocks (s.against c) n) :=
  fits_alike <| sackPairs_alike fun _ => .goesOn rfl rfl

theorem decodeUdp_alike (o : Nat) :
    Alike s.background c (decodeUdp s o) (decodeUdp (s.against c) o) :=
  enter_alike <| rd16_alike fun _ => rd16_alike fun _ => rd16_alike fun _ => rd16_alike fun _ =>
    ite_alike raise_alike <| .goesOn rfl rfl

theorem decodeIcmp_alike (o : Nat) :
    Alike s.background c (decodeIcmp s o) (decodeIcmp (s.against c) o) :=
  enter_alike <| rd8_alike fun _ => rd8_alike fun _ => rd16_alike fun _ => .goesOn rfl rfl

theorem decodeIgmp_alike (o : Nat) :
    Alike s.background c (decodeIgmp s o) (decodeIgmp (s.against c) o) :=
  enter_alike <| rd8_alike fun _ => rd8_alike fun _ => rd16_alike fun _ => rdBytes_alike fun _ =>
    .goesOn rfl rfl

theorem udpDns_alike : Alike s.background c (udpDns s) (udpDns (s.against c)) := by
  unfold udpDns decodeDns
  exact drd16_alike (s := s.setCtx _) fun _ => drd16_alike fun _ => drd16_alike fun _ =>
    drd16_alike fun _ => drd16_alike fun _ => drd16_alike fun _ => .goesOn rfl rfl

theorem execDnsLabel_alike (length : BitVec 6) :
    Alike s.background c (execDnsLabel length s) (execDnsLabel length (s.against c)) :=
  dbytes_alike fun _ => .goesOn rfl rfl

theorem execDnsPtr_alike (high : BitVec 6) :
    Alike s.background c (execDnsPtr high s) (execDnsPtr high (s.against c)) :=
  drd8_alike fun _ => ite_alike (raise_alike (s := State.setDns (s.setCtx _) _)) (.goesOn rfl rfl)

theorem execRrAIn_alike : Alike s.background c (execRrAIn s) (execRrAIn (s.against c)) :=
  ite_alike (dbytes_alike fun _ => .goesOn rfl rfl) (.goesOn rfl rfl)

theorem execRrAaaaIn_alike : Alike s.background c (execRrAaaaIn s) (execRrAaaaIn (s.against c)) :=
  ite_alike (dbytes_alike fun _ => .goesOn rfl rfl) (.goesOn rfl rfl)

/-- The fields after a name: one case for each use of the name (R353, R354, R363). -/
theorem afterName_alike : Alike s.background c (afterName s) (afterName (s.against c)) := by
  have hwork : (s.against c).work = s.work := rfl
  simp only [afterName, hwork]
  cases s.work.dns.nameUse with
  | question => exact drd16_alike fun _ => drd16_alike fun _ => .goesOn rfl rfl
  | owner =>
    exact drd16_alike fun _ => drd16_alike fun _ => drd32_alike fun _ => drd16_alike fun _ =>
      ite_alike raise_alike <| .goesOn rfl rfl
  | nsData => exact .goesOn rfl rfl

/-- Opening a section: the ceiling is a parameter, and the count is the message's (R352). -/
theorem openSection_alike (k : SectionKind) (later : List SectionKind) :
    Alike s.background c (.next (openSection s k later))
      (.next (openSection (s.against c) k later)) := by
  have hwork : (s.against c).work = s.work := rfl
  have hcfg : (s.against c).cfg = s.cfg := rfl
  simp only [openSection, hwork, hcfg]
  split
  · exact .goesOn rfl rfl
  · exact .goesOn rfl rfl

/-- The head of the section loops: a section under way, the next one, or the end (R350, R352). -/
theorem sectionsHead_alike : Alike s.background c (sectionsHead s) (sectionsHead (s.against c)) := by
  have hwork : (s.against c).work = s.work := rfl
  simp only [sectionsHead, hwork]
  cases s.work.dns.current with
  | some k => exact ite_alike (.goesOn rfl rfl) (.goesOn rfl rfl)
  | none =>
    cases s.work.dns.pending with
    | nil => exact .goesOn rfl rfl
    | cons k later => exact openSection_alike s c k later

end

/-! ## The rows -/

/-- Every row of the parser is the same step in every background: its decoder is. -/
theorem exec_alike (i : Instr) (s : State) (c : Background) (hi : isParserRow i = true) :
    Alike s.background c (exec i s) (exec i (s.against c)) := by
  cases i with
  | ltEthernet => exact decodeEthernet_alike s c 0
  | ltNull => exact decodeNull_alike s c 0
  | ltRawIpv4 => exact decodeNetIpv4_alike (s.setLink .raw) c 0
  | ltLinuxSll => exact decodeSll_alike s c 0
  | ltLlc => exact decodeLlc_alike s c 0
  | ltOther => exact raise_alike
  | etIpv4 => exact decodeNetIpv4_alike s c s.work.next
  | etArp => exact decodeArp_alike s c s.work.next
  | etIpv6 => exact decodeNetIpv6_alike s c s.work.next
  | etLenLo => exact raise_alike
  | etLenHi => exact raise_alike
  | etUnknown => exact .goesOn rfl rfl
  | nfInet => exact decodeNetIpv4_alike s c s.work.next
  | nfInet6_24 => exact decodeNetIpv6_alike s c s.work.next
  | nfInet6_28 => exact decodeNetIpv6_alike s c s.work.next
  | nfInet6_30 => exact decodeNetIpv6_alike s c s.work.next
  | nfOther => exact raise_alike
  | llcSnap => exact llcRest_alike s c 0xAA#8 0xAA#8
  | llcBasic => exact llcRest_alike s c 0x00#8 0x00#8
  | llcBad => exact raise_alike
  | pExt0 => exact decodeExt_alike s c 0#8
  | pIcmp => exact decodeIcmp_alike s c s.work.next
  | pIgmp => exact decodeIgmp_alike s c s.work.next
  | pIpv4 => exact decodeIpv4_alike s c s.work.next (fun _ _ => rfl) (fun _ _ => rfl)
  | pTcp => exact decodeTcp_alike s c s.work.next
  | pUdp => exact decodeUdp_alike s c s.work.next
  | pIpv6 => exact decodeIpv6_alike s c s.work.next (fun _ _ => rfl) (fun _ _ => rfl)
  | pExt43 => exact decodeExt_alike s c 43#8
  | pExt51 => exact decodeExt_alike s c 51#8
  | pNoNext => exact decodeNoNext_alike s c s.work.next
  | pExt60 => exact decodeExt_alike s c 60#8
  | pExt135 => exact decodeExt_alike s c 135#8
  | pExt139 => exact decodeExt_alike s c 139#8
  | pExt140 => exact decodeExt_alike s c 140#8
  | pUnknown => exact raise_alike
  | optEol => exact .goesOn rfl rfl
  | optNop => exact .goesOn rfl rfl
  | optMss => exact optFixed_alike <| fits_alike <| rd16_alike fun _ => .goesOn rfl rfl
  | optWscale => exact optFixed_alike <| fits_alike <| rd8_alike fun _ => .goesOn rfl rfl
  | optSackOk => exact optFixed_alike <| .goesOn rfl rfl
  | optSack => exact optLen_alike fun _ => .goesOn rfl rfl
  | optTs =>
    exact optFixed_alike <| fits_alike <| rd32_alike fun _ => rd32_alike fun _ => .goesOn rfl rfl
  | optExp254 => exact optExp_alike s c
  | optExp255 => exact optExp_alike s c
  | optBad => exact raise_alike
  | sack1 => exact sackBlocks_alike s c 1
  | sack2 => exact sackBlocks_alike s c 2
  | sack3 => exact sackBlocks_alike s c 3
  | sack4 => exact sackBlocks_alike s c 4
  | sackBad => exact raise_alike
  | dnsTerm => exact .goesOn rfl rfl
  | dnsLabel length => exact execDnsLabel_alike s c length
  | dnsPtr high => exact execDnsPtr_alike s c high
  | dnsRsv01 => exact raise_alike
  | dnsRsv10 => exact raise_alike
  | rrAIn => exact execRrAIn_alike s c
  | rrNsIn => exact .goesOn rfl rfl
  | rrAaaaIn => exact execRrAaaaIn_alike s c
  | rrOther => exact .goesOn rfl rfl
  | arpRequest => exact .goesOn rfl rfl
  | arpReply => exact .goesOn rfl rfl
  | arpUnknown => exact .goesOn rfl rfl
  | igmpQuery => exact .goesOn rfl rfl
  | igmpV1Report => exact .goesOn rfl rfl
  | igmpV2Report => exact .goesOn rfl rfl
  | igmpLeave => exact .goesOn rfl rfl
  | igmpV3Report => exact .goesOn rfl rfl
  | igmpOther => exact .goesOn rfl rfl
  | udpDnsSrc => exact udpDns_alike s c
  | udpDnsDst => exact udpDns_alike s c
  | udpPlain => exact .goesOn rfl rfl
  | segSynNoAck => cases hi
  | segSynAck => cases hi
  | segAck => cases hi
  | segFin => cases hi

/-- Every code of the parser's twelve tables selects a row, and a row of the parser (R133, R146). -/
theorem decode_parserRow (cfg : Config) (sel : Selector) (h : sel.table ≠ .tcpclass) :
    ∃ i, decode cfg sel = .ok i ∧ isParserRow i = true := by
  cases sel with
  | tcpclass => exact absurd rfl h
  | _ =>
    refine ⟨_, rfl, ?_⟩
    simp only [decodeLinkCode, decodeEthertype, decodeNullFamily, decodeSap, decodeProtocol,
      decodeOptionKind, decodeSackLength, decodeLabelByte, decodeRecordType, decodeArpOperation,
      decodeIgmpType, decodePorts, apply_ite isParserRow]
    simp only [isParserRow, ite_self]

/-! ## The step -/

/-- What a fetched instruction does, or the outcome of a step without one. -/
def Fetched.outcome : Fetched → Out
  | .run i s => exec i s
  | .done o => o

theorem step_eq (s : State) : step s = (fetch s).outcome := rfl

section
variable (s : State) (c : Background)

/-- The row that `SEL` selects, in any table but the tracker's. -/
theorem fetchRow_alike (h : s.ctx.sel.table ≠ .tcpclass) :
    Alike s.background c (fetchRow s).outcome (fetchRow (s.against c)).outcome := by
  obtain ⟨i, hi, hrow⟩ := decode_parserRow s.cfg s.ctx.sel h
  have hi' : decode (s.against c).cfg (s.against c).ctx.sel = .ok i := hi
  simp only [fetchRow, hi, hi', Fetched.outcome]
  exact exec_alike i s c hrow

/-- The head of the option loop: a kind to look up, a kind past `B_len`, or the end (R294). -/
theorem fetchOption_alike :
    Alike s.background c (fetchOption s).outcome (fetchOption (s.against c)).outcome := by
  simp only [fetchOption, apply_ite Fetched.outcome]
  exact ite_alike
    (ite_alike (fetchRow_alike (s.look (.tcpopt (s.u8 s.work.cur))) c nofun) raise_alike)
    (tcpFinish_alike s c)

/-- The head of the name loop: a label byte to look up, or one outside the window (R355, R367). -/
theorem fetchLabel_alike :
    Alike s.background c (fetchLabel s).outcome (fetchLabel (s.against c)).outcome := by
  simp only [fetchLabel, apply_ite Fetched.outcome]
  exact ite_alike (fetchRow_alike (s.look (.dnslabel (s.u8 s.work.dns.cur))) c nofun) raise_alike

/-- A finished protocol payload with a network header under it (R175). -/
theorem deliverProto_alike (p : ProtoPayload) (hnet : s.work.net.isSome = true) :
    Alike s.background c (deliverProto s p) (deliverProto (s.against c) p) := by
  obtain ⟨h, hn⟩ := Option.isSome_iff_exists.1 hnet
  have hn' : (s.against c).work.net = some h := hn
  rw [deliverProto_some s p h hn, deliverProto_some (s.against c) p h hn']
  exact respond_alike

/-- The parser's selector is in one of its own tables. -/
def State.selOk (s : State) : Prop := s.mode = .row → s.ctx.sel.table ≠ .tcpclass

/-- A step of a request is the same in every background, but for a finished protocol payload with
nothing under it, which no good state holds (R39, R40). -/
theorem step_alike (hp : s.parsing = true) (hsel : s.selOk)
    (hnet : ∀ p, s.mode = .deliverProto p → s.work.net.isSome = true) :
    Alike s.background c (step s) (step (s.against c)) := by
  have hmode : (s.against c).mode = s.mode := rfl
  rw [step_eq, step_eq]
  unfold fetch
  rw [hmode]
  unfold State.selOk at hsel
  unfold State.parsing at hp
  cases hm : s.mode with
  | idle => simp [hm] at hp
  | observe => simp [hm] at hp
  | row => exact fetchRow_alike s c (hsel hm)
  | options => exact fetchOption_alike s c
  | name => exact fetchLabel_alike s c
  | afterName => exact afterName_alike s c
  | sections => exact sectionsHead_alike s c
  | deliverNet p => exact respond_alike
  | deliverProto p => exact deliverProto_alike s c p (hnet p hm)

/-- A finished protocol payload with nothing under it stops the block. -/
theorem step_noNetHeader {p : ProtoPayload} (hm : s.mode = .deliverProto p)
    (hnet : s.work.net = none) : step s = .fault .noNetHeader := by
  simp [step, fetch, hm, deliverProto, hnet]

end

/-! ## Purity -/

/-- What `Alike` says, in the terms of the statement: the second outcome is the first one with the
other background in its place, and the first background is kept but for one response at most. -/
theorem Alike.pure {s : State} {c : Background} {x y : Out} (h : Alike s.background c x y) :
    y = mapNext
        (fun t => (t.withTracker c.registry c.obs c.observed).withResponses
          (c.responses ++ t.responses.drop s.responses.length)) x ∧
    ∀ t, x = .next t →
      t.registry = s.registry ∧ t.obs = s.obs ∧ t.observed = s.observed ∧
      t.responses.take s.responses.length = s.responses := by
  cases h with
  | @goesOn t t' kept same =>
    obtain ⟨hreg, hobs, hout, hresp⟩ := Background.mk.inj kept
    refine ⟨?_, fun u hu => ?_⟩
    · simp [mapNext, same, hresp, State.against_eq]
    · cases hu
      exact ⟨hreg, hobs, hout, by simp [hresp]⟩
  | @answers t t' r kept same =>
    obtain ⟨hreg, hobs, hout, hresp⟩ := Background.mk.inj kept
    have hgrown : t.responses = s.responses ++ [r] := hresp
    refine ⟨?_, fun u hu => ?_⟩
    · simp [mapNext, same, hgrown, State.against_eq, Background.answer]
    · cases hu
      exact ⟨hreg, hobs, hout, by simp [hgrown]⟩

/-- Settles O58: every step of a request is alike in two backgrounds (`step_alike`); the one fault of
the parser does not see the background either. -/
theorem parserIsPure : Obligations.ParserIsPure := by
  unfold Obligations.ParserIsPure
  intro s registry obs observed earlier hp hsel
  by_cases hfault : ∃ p, s.mode = .deliverProto p ∧ s.work.net = none
  · obtain ⟨p, hm, hnet⟩ := hfault
    rw [step_noNetHeader s hm hnet,
      step_noNetHeader ((s.withTracker registry obs observed).withResponses earlier) hm hnet]
    exact ⟨rfl, fun t ht => by cases ht⟩
  · have hnet : ∀ p, s.mode = .deliverProto p → s.work.net.isSome = true := fun p hm =>
      Option.isSome_iff_ne_none.2 fun hn => hfault ⟨p, hm, hn⟩
    have halike := step_alike s ⟨registry, obs, observed, earlier⟩ hp hsel hnet
    rw [State.against_eq] at halike
    exact halike.pure

end Sys2Proof.Machine
end

section
/-! SUPPORT. No good state is stuck (R13, R429, R467). -/

namespace Sys2Proof.Machine

/-! ## What a good mode says -/

theorem State.safe_modeOk {s : State} (h : s.safe = true) : s.modeOk = true := by
  simp only [State.safe, Bool.and_eq_true] at h
  obtain ⟨⟨⟨⟨_, hmode⟩, _⟩, _⟩, _⟩ := h
  exact hmode

/-- The parser's selector is never in the tracker's table. -/
theorem State.selOk_of_modeOk {s : State} (h : s.modeOk = true) : s.selOk := by
  intro hm
  simp only [State.modeOk, hm, Bool.and_eq_true, bne_iff_ne] at h
  obtain ⟨⟨hsel, _⟩, _⟩ := h
  exact hsel

/-- A finished protocol payload has a network header under it (R39, R40). -/
theorem State.net_of_modeOk {s : State} {p : ProtoPayload} (h : s.modeOk = true)
    (hm : s.mode = .deliverProto p) : s.work.net.isSome = true := by
  simp only [State.modeOk, hm, Bool.and_eq_true] at h
  exact h.1

/-- The tracker steps on a segment that it has taken (R400). -/
theorem State.obs_of_modeOk {s : State} (h : s.modeOk = true) (hm : s.mode = .observe) :
    ∃ o, s.obs = some o := by
  simp only [State.modeOk, hm, Bool.and_eq_true] at h
  exact Option.isSome_iff_exists.1 h.2

/-! ## The other two agents' steps -/

/-- Between calls the block takes the next call, whatever it is, or stays idle (R473, R502). -/
theorem takeCall_next (s : State) : ∃ t, takeCall s = .next t := by
  unfold takeCall
  cases s.calls with
  | nil => exact ⟨_, rfl⟩
  | cons call rest =>
    cases call with
    | decode linkType header buf =>
      by_cases hshort : buf.len < (parseHeader header).capturedLength.toNat
      · exact ⟨_, if_pos hshort⟩
      · exact ⟨_, if_neg hshort⟩
    | observe f => exact ⟨_, rfl⟩

/-- A step of a flow whose rule tests no row, or whose row does not match, commits (R405). -/
theorem observeOther_next {s : State} {o : Observation} (h : s.obs = some o) :
    ∃ t, observeOther s = .next t :=
  ⟨_, by simp only [observeOther, h, runSegment_some _ s o h]; rfl⟩

/-- A row of `TCPCLASS` that matches commits the flow's step (R146, R405). -/
theorem exec_classRow_next {s : State} {o : Observation} (h : s.obs = some o) {r : ClassRow}
    {flags : BitVec 9} {i : Instr} (hi : decodeClass r flags = .ok i) : ∃ t, exec i s = .next t := by
  unfold decodeClass at hi
  split at hi
  · cases r with
    | synNoAck => cases hi; exact ⟨_, runSegment_some _ s o h⟩
    | synAck => cases hi; exact ⟨_, runSegment_some _ s o h⟩
    | ack => cases hi; exact ⟨_, runSegment_some _ s o h⟩
    | fin => cases hi; exact ⟨_, runSegment_some _ s o h⟩
  · cases hi

/-- With a segment taken, `observe` cannot fail: the tested row runs, or the flow steps without one
(R405, R467). -/
theorem fetchClass_next {s : State} {o : Observation} (h : s.obs = some o) :
    ∃ t, (fetchClass s).outcome = .next t := by
  cases hr : o.row with
  | none =>
    simp only [fetchClass, h, hr]
    exact observeOther_next h
  | some r =>
    cases hd : decodeClass r o.seg.tcp.flags.word with
    | ok i =>
      simp only [fetchClass, h, hr, hd]
      exact exec_classRow_next h hd
    | error e =>
      simp only [fetchClass, h, hr, hd]
      exact observeOther_next h

/-! ## Progress -/

/-- Settles O57: a step of a request answers a next state because it is alike to itself
(`step_alike`); between calls and in an `observe` call nothing can stop. -/
theorem progress : Obligations.Progress := by
  unfold Obligations.Progress
  intro s hsafe
  have hok := State.safe_modeOk hsafe
  by_cases hidle : s.mode = .idle
  · rw [step_eq, fetch, hidle]
    exact takeCall_next s
  by_cases hobserve : s.mode = .observe
  · obtain ⟨o, ho⟩ := State.obs_of_modeOk hok hobserve
    rw [step_eq, fetch, hobserve]
    exact fetchClass_next ho
  have hparsing : s.parsing = true := by
    unfold State.parsing
    split
    · next hm => exact absurd hm hidle
    · next hm => exact absurd hm hobserve
    · rfl
  exact (step_alike s s.background hparsing (State.selOk_of_modeOk hok)
    fun _ hm => State.net_of_modeOk hok hm).next

end Sys2Proof.Machine
end

section
/-! SUPPORT. Everything that a row of the parser can do. `Leads x P` says that an outcome `x` leads to
states with `P` only; there is one rule for each shared operation and one for each decoder. `RowFails` and
`RowGoes` list what a row can answer: a fatal error, or one of the ways on. Statements about all rows
follow from these two lists, and do not look into the decoders. -/

namespace Sys2Proof

/-- The dispatch table of a row (R133). -/
def Instr.table (i : Instr) : Table := (encode Config.standard i).table

end Sys2Proof

namespace Sys2Proof.Machine

/-! ## Where an outcome leads -/

/-- The outcome leads to states with `P` only. -/
def Leads (x : Out) (P : State → Prop) : Prop := ∀ t, x = .next t → P t

theorem Leads.imp {x : Out} {P Q : State → Prop} (h : Leads x P) (himp : ∀ t, P t → Q t) :
    Leads x Q := fun t ht => himp t (h t ht)

section
variable {P : State → Prop} {s : State}

theorem next_leads {t : State} (h : P t) : Leads (.next t) P := fun _ hu => by cases hu; exact h

theorem raise_leads {code : FatalCode} {a : Nat} (h : P (s.raised code a)) :
    Leads (s.raise code a) P := next_leads h

theorem ite_leads {p : Prop} [Decidable p] {x y : Out} (hx : p → Leads x P) (hy : ¬p → Leads y P) :
    Leads (if p then x else y) P := by
  split
  · next h => exact hx h
  · next h => exact hy h

/-- Every fatal error that an operation may raise in the state `s` has `P`. -/
def RaisesIn (s : State) (P : State → Prop) : Prop := ∀ code a, P (s.raised code a)

variable (hf : RaisesIn s P)
include hf

theorem rd8_leads {a : Nat} {k : Byte → Out}
    (hk : s.readable a 1 = true → Leads (k (s.u8 a)) P) : Leads (rd8 s a k) P :=
  ite_leads hk fun _ => raise_leads (hf _ _)

theorem rd16_leads {a : Nat} {k : U16 → Out}
    (hk : s.readable a 2 = true → Leads (k (s.u16 a)) P) : Leads (rd16 s a k) P :=
  ite_leads hk fun _ => raise_leads (hf _ _)

theorem rd32_leads {a : Nat} {k : U32 → Out}
    (hk : s.readable a 4 = true → Leads (k (s.u32 a)) P) : Leads (rd32 s a k) P :=
  ite_leads hk fun _ => raise_leads (hf _ _)

theorem rdBytes_leads {a n : Nat} {k : Bytes → Out}
    (hk : s.readable a n = true → Leads (k (s.bytes a n)) P) : Leads (rdBytes s a n k) P :=
  ite_leads hk fun _ => raise_leads (hf _ _)

theorem drd8_leads {a : Nat} {k : Byte → Out}
    (hk : s.dnsReadable a 1 = true → Leads (k (s.u8 a)) P) : Leads (drd8 s a k) P :=
  ite_leads hk fun _ => raise_leads (hf _ _)

theorem drd16_leads {a : Nat} {k : U16 → Out}
    (hk : s.dnsReadable a 2 = true → Leads (k (s.u16 a)) P) : Leads (drd16 s a k) P :=
  ite_leads hk fun _ => raise_leads (hf _ _)

theorem drd32_leads {a : Nat} {k : U32 → Out}
    (hk : s.dnsReadable a 4 = true → Leads (k (s.u32 a)) P) : Leads (drd32 s a k) P :=
  ite_leads hk fun _ => raise_leads (hf _ _)

theorem dbytes_leads {a n : Nat} {k : Bytes → Out}
    (hk : a + n ≤ s.ctx.dnsend → Leads (k (s.bytes a n)) P) : Leads (dbytes s a n k) P :=
  ite_leads (fun h => rdBytes_leads hf fun _ => hk h) fun _ => raise_leads (hf _ _)

theorem optLen_leads {k : Byte → Out}
    (hk : s.work.cur + 2 ≤ s.ctx.optend → Leads (k (s.u8 (s.work.cur + 1))) P) :
    Leads (optLen s k) P :=
  ite_leads (fun h => rd8_leads hf fun _ => hk h) fun _ => raise_leads (hf _ _)

theorem fits_leads {l : Nat} {x : Out} (hx : s.work.cur + l ≤ s.ctx.optend → Leads x P) :
    Leads (fits s l x) P :=
  ite_leads hx fun _ => raise_leads (hf _ _)

theorem optFixed_leads {size : Byte} {x : Out} (hx : s.work.cur + 2 ≤ s.ctx.optend → Leads x P) :
    Leads (optFixed s size x) P :=
  optLen_leads hf fun h => ite_leads (fun _ => raise_leads (hf _ _)) fun _ => hx h

theorem sackPairs_leads {a n : Nat} {k : List (U32 × U32) → Out}
    (hk : ∀ l, l.length = n → Leads (k l) P) : Leads (sackPairs s a n k) P := by
  induction n generalizing a k with
  | zero => exact hk [] rfl
  | succ n ih =>
    exact rd32_leads hf fun _ => rd32_leads hf fun _ => ih fun l hl => hk _ (by simp [hl])

omit hf in
/-- Entering a header raises in the entered state, as the decoder itself does (R176, R474). -/
theorem enter_leads {o : Nat} {k : State → Out} (hf : RaisesIn (s.entered o) P)
    (hk : Config.tooDeep s.cfg (s.ctx.depth + 1) = false → Leads (k (s.entered o)) P) :
    Leads (enter s o k) P :=
  ite_leads (fun _ => raise_leads (hf _ _)) fun h => hk (by simpa using h)

end

/-! ## What a row can answer -/

/-- The link-layer decoders that look up where to go on (R173). -/
def linkRows : List Instr := [.ltEthernet, .ltNull, .ltLinuxSll, .ltLlc]

/-- The SAP pairs that LLC decodes (R198). -/
def sapRows : List Instr := [.llcSnap, .llcBasic]

/-- IPv4 under the link layer, but for a raw frame (R193, R205). -/
def netIpv4Rows : List Instr := [.etIpv4, .nfInet]

/-- IPv6 under the link layer (R195, R206). -/
def netIpv6Rows : List Instr := [.etIpv6, .nfInet6_24, .nfInet6_28, .nfInet6_30]

/-- The extension headers (R244). -/
def extRows : List Instr := [.pExt0, .pExt43, .pExt51, .pExt60, .pExt135, .pExt139, .pExt140]

/-- The headers that a protocol number selects and that carry a payload (R239, R242, R244). -/
def nestedRows : List Instr := .pIpv4 :: .pIpv6 :: extRows

/-- The headers without a payload that end in their own decoder (R247, R307). -/
def leafRows : List Instr := [.pNoNext, .pIcmp]

/-- The fatal errors of a row: it raises before it writes a register, in the header that it has entered,
at the pointer that it has counted, or in the window that it has set. -/
inductive RowFails (s : State) : Instr → State → Prop
  | plain {i : Instr} (code : FatalCode) (off : Nat) : RowFails s i (s.raised code off)
  | entered {i : Instr} (hi : isHeaderRow i = true) (o : Nat) (code : FatalCode) (off : Nat) :
    RowFails s i ((s.entered o).raised code off)
  | pointer (high : BitVec 6) (code : FatalCode) (off : Nat) :
    RowFails s (.dnsPtr high) ((s.setCtx { s.ctx with hops := s.ctx.hops + 1 }).raised code off)
  | window {i : Instr} {p : BitVec 16} (hi : i = .udpDnsSrc p ∨ i = .udpDnsDst p) (base stop : Nat)
    (code : FatalCode) (off : Nat) :
    RowFails s i ((s.setCtx { s.ctx with dnsbase := base, dnsend := stop }).raised code off)

/-- The ways on from a row. -/
inductive RowGoes (s : State) : Instr → State → Prop
  /-- A link-layer decoder (R173) up to its look-up. -/
  | link {i : Instr} (hi : i ∈ linkRows) {h : LinkHdr}
    {sel : Selector} {n : Nat} (hdepth : Config.tooDeep s.cfg (s.ctx.depth + 1) = false)
    (hsized : h.sized = true) (hsel : sel.table ∈ [.ethertype, .nullfam, .llcsap]) :
    RowGoes s i (((s.entered 0).setLink h).jump sel n)
  /-- The rest of the LLC decoder (R198). -/
  | llc {i : Instr} (hi : i ∈ sapRows) {h : LlcHdr} {t : U16} {n : Nat} :
    RowGoes s i ((s.setLink (.llc h)).dispatchEther t n)
  /-- The IPv4 header of a raw frame (R174). -/
  | rawIpv4 {h : Ipv4Hdr} {p : Byte} {n : Nat} {rem : Int}
    (hdepth : Config.tooDeep s.cfg (s.ctx.depth + 1) = false) (hsized : h.sized = true) :
    RowGoes s .ltRawIpv4 ((((s.setLink .raw).entered 0).pushNetIpv4 h).dispatchProto p n rem)
  /-- An IPv4 header under the link layer (R193, R205). -/
  | netIpv4 {i : Instr} (hi : i ∈ netIpv4Rows) {h : Ipv4Hdr} {p : Byte} {n : Nat} {rem : Int}
    (hdepth : Config.tooDeep s.cfg (s.ctx.depth + 1) = false) (hsized : h.sized = true) :
    RowGoes s i (((s.entered s.work.next).pushNetIpv4 h).dispatchProto p n rem)
  /-- An IPv6 header under the link layer (R195, R206). -/
  | netIpv6 {i : Instr} (hi : i ∈ netIpv6Rows) {h : Ipv6Hdr}
    {p : Byte} {n : Nat} {rem : Int}
    (hdepth : Config.tooDeep s.cfg (s.ctx.depth + 1) = false) (hsized : h.sized = true) :
    RowGoes s i (((s.entered s.work.next).pushNetIpv6 h).dispatchProto p n rem)
  /-- A nested header (R239, R242, R244): it lies inside the buffer, and the next one after it. -/
  | nested {i : Instr}
    (hi : i ∈ nestedRows)
    {h : ProtoHdr} {p : Byte} {n : Nat} {rem : Int}
    (hdepth : Config.tooDeep s.cfg (s.ctx.depth + 1) = false) (hsized : h.sized = true)
    (hin : s.work.next < s.req.blen) (hnext : s.work.next < n) :
    RowGoes s i (((s.entered s.work.next).pushInner h).dispatchProto p n rem)
  /-- The ARP decoder up to the class of the operation (R248). -/
  | arp {r : ArpRec} {op : U16} (hdepth : Config.tooDeep s.cfg (s.ctx.depth + 1) = false)
    (hsized : r.sized = true) :
    RowGoes s .etArp (((s.entered s.work.next).setWork { s.work with arp := r }).look (.arpop op))
  /-- The class of an ARP operation (R249). -/
  | arpClass {i : Instr} (hi : i.table = .arpop) (c : ArpClass) : RowGoes s i (s.finishArp c)
  /-- An unknown ethertype (R197). -/
  | unknown (code : BitVec 16) (off : Nat) :
    RowGoes s (.etUnknown code)
      ((s.addDiag (.unknownEthertype code off)).finishNet (.unknown code))
  /-- A header without a payload (R247, R307). -/
  | leaf {i : Instr} (hi : i ∈ leafRows) {p : ProtoPayload}
    (hdepth : Config.tooDeep s.cfg (s.ctx.depth + 1) = false) (hsized : p.sized = true) :
    RowGoes s i ((s.entered s.work.next).finishProto p)
  /-- The IGMP decoder up to the version look-up (R308). -/
  | igmp {r : IgmpRec} {code : Byte} (hdepth : Config.tooDeep s.cfg (s.ctx.depth + 1) = false)
    (hsized : r.group.length = 4) :
    RowGoes s .pIgmp (((s.entered s.work.next).setWork { s.work with igmp := r }).look (.igmptype code))
  /-- The version of an IGMP message (R309). -/
  | igmpVersion {i : Instr} (hi : i.table = .igmptype) (v : Option IgmpVersion) :
    RowGoes s i (s.finishIgmp v)
  /-- The TCP decoder up to the option loop (R290). -/
  | tcp {r : TcpRec} {stop c : Nat} (hdepth : Config.tooDeep s.cfg (s.ctx.depth + 1) = false)
    (hsized : r.sized = true) :
    RowGoes s .pTcp
      ((((s.entered s.work.next).setCtx { (s.entered s.work.next).ctx with optend := stop }).setWork
        { s.work with cur := c, tcp := r }).setMode .options)
  /-- An option is complete (R294): the cursor has moved on, and a SACK row has found its option inside
  the area. -/
  | option {i : Instr} (hi : i.table = .tcpopt ∨ i.table = .sacklen ∧ s.work.cur < s.ctx.optend)
    {opts : TcpOptions} {c : Nat}
    (hsack : ∀ l, opts.sack = some l →
      s.work.tcp.options.sack = some l ∨ 1 ≤ l.length ∧ l.length ≤ 4)
    (hmoves : s.work.cur < c ∨ s.ctx.optend ≤ c) : RowGoes s i (s.optionDone opts c)
  /-- A SACK option up to the look-up of its length (R300). -/
  | sack (l : Byte) : RowGoes s .optSack (s.look (.sacklen l))
  /-- The UDP decoder up to the port look-up (R305). -/
  | udp {r : UdpRec} {code : BitVec 32} (hdepth : Config.tooDeep s.cfg (s.ctx.depth + 1) = false) :
    RowGoes s .pUdp (((s.entered s.work.next).setWork { s.work with udp := r }).look (.udpport code))
  /-- A UDP payload that is not DNS (R306). -/
  | udpPlain (src dst : BitVec 16) :
    RowGoes s (.udpPlain src dst) (s.finishProto (.udp { s.work.udp with dns := none }))
  /-- The DNS header (R350): the window lies inside the buffer. -/
  | dns {i : Instr} {p : BitVec 16} (hi : i = .udpDnsSrc p ∨ i = .udpDnsDst p) {base stop : Nat}
    {m : DnsMsg} {pending : List SectionKind} {c : Nat} (hstop : stop ≤ s.req.blen)
    (hsized : m.sized = true) :
    RowGoes s i (((s.setCtx { s.ctx with dnsbase := base, dnsend := stop }).setDns
      { DnsWork.empty with msg := m, pending := pending, cursor := c }).setMode .sections)
  /-- The end of a name (R357). -/
  | nameEnd (c : Nat) :
    RowGoes s .dnsTerm ((s.setDns { s.work.dns with cursor := c }).setMode .afterName)
  /-- A label (R356): it lies inside the window. -/
  | label {n : BitVec 6} {l : Label} (hsized : l.length = n.toNat)
    (hin : s.work.dns.cur + 1 + n.toNat ≤ s.ctx.dnsend) :
    RowGoes s (.dnsLabel n) ((s.setDns
      { s.work.dns with
        labels := s.work.dns.labels ++ [l], cur := s.work.dns.cur + 1 + n.toNat }).setMode .name)
  /-- A compression pointer within the hop limit (R358, R360). -/
  | pointer {high : BitVec 6} (resume : Option Nat) (c : Nat)
    (hhops : s.ctx.hops + 1 ≤ s.cfg.dnsMaxPtrHops) :
    RowGoes s (.dnsPtr high) (((s.setCtx { s.ctx with hops := s.ctx.hops + 1 }).setDns
      { s.work.dns with resume := resume, cur := c }).setMode .name)
  /-- A record is complete (R362 to R365). -/
  | record {i : Instr} (hi : i.table = .dnsrr) {data : RData} (hsized : data.sized = true) :
    RowGoes s i (s.recordDone data)
  /-- A record whose data has another length than its type says (R366). -/
  | mismatch {i : Instr} (hi : i ∈ [.rrAIn, .rrAaaaIn]) (d : Diag) :
    RowGoes s i ((s.addDiag d).recordDone .unresolved)
  /-- The data of an NS record is a name (R363). -/
  | nsName : RowGoes s .rrNsIn (s.startName s.work.dns.rdStart .nsData)

/-- What a row can answer: a fatal error, or one of the ways on. -/
def RowStep (s : State) (i : Instr) (t : State) : Prop := RowFails s i t ∨ RowGoes s i t

/-! ## The decoders -/

@[simp] theorem State.bytes_length (s : State) (a n : Nat) : (s.bytes a n).length = n :=
  Memory.slice_length _ a n

/-- A byte that can be read lies inside the buffer (R84). -/
theorem lt_blen_of_readable {s : State} {a n : Nat} (h : s.readable a (n + 1) = true) :
    a < s.req.blen := by
  simp only [State.readable, decide_eq_true_eq] at h
  omega

theorem ipv4Ihl_lt (vb : Byte) : ipv4Ihl vb < 16 := (vb.extractLsb' 0 4).isLt

theorem tcpDataOffset_lt (b : Byte) : tcpDataOffset b < 16 := (b.extractLsb' 4 4).isLt

/-- An IPv4 decoder raises in the header that it has entered, or hands on a sized header (R230 to
R233). -/
theorem decodeIpv4_leads {s : State} {o : Nat} {push : State → Ipv4Hdr → State} {P : State → Prop}
    (hf : RaisesIn (s.entered o) P)
    (hk : ∀ h p n rem, Config.tooDeep s.cfg (s.ctx.depth + 1) = false → h.sized = true →
      o < s.req.blen → o < n → P ((push (s.entered o) h).dispatchProto p n rem)) :
    Leads (decodeIpv4 s o push) P := by
  refine enter_leads hf fun hdepth => rd8_leads hf fun hin => ite_leads
    (fun _ => raise_leads (hf _ _)) fun hihl => rd8_leads hf fun _ => rd16_leads hf fun _ =>
    rd16_leads hf fun _ => rd16_leads hf fun _ => rd8_leads hf fun _ => rd8_leads hf fun _ =>
    rd16_leads hf fun _ => rdBytes_leads hf fun _ => rdBytes_leads hf fun _ => ite_leads
    (fun _ => raise_leads (hf _ _)) fun hlen => next_leads ?_
  have hmax := ipv4Ihl_lt ((s.entered o).u8 o)
  refine hk _ _ _ _ hdepth ?_ (lt_blen_of_readable hin) (by omega)
  simp only [Ipv4Hdr.sized, State.bytes_length, beq_self_eq_true, Bool.true_and, Bool.and_eq_true,
    decide_eq_true_eq]
  omega

/-- An IPv6 decoder raises in the header that it has entered, or hands on a sized header (R234). -/
theorem decodeIpv6_leads {s : State} {o : Nat} {push : State → Ipv6Hdr → State} {P : State → Prop}
    (hf : RaisesIn (s.entered o) P)
    (hk : ∀ h p n rem, Config.tooDeep s.cfg (s.ctx.depth + 1) = false → h.sized = true →
      o < s.req.blen → o < n → P ((push (s.entered o) h).dispatchProto p n rem)) :
    Leads (decodeIpv6 s o push) P :=
  enter_leads hf fun hdepth => rd32_leads hf fun hin => rd16_leads hf fun _ =>
    rd8_leads hf fun _ => rd8_leads hf fun _ => rdBytes_leads hf fun _ => rdBytes_leads hf fun _ =>
    next_leads <| hk _ _ _ _ hdepth (by simp [Ipv6Hdr.sized]) (lt_blen_of_readable hin) (by omega)

section
variable (s : State)

theorem fails_plain (i : Instr) : RaisesIn s (RowStep s i) := fun _ _ => .inl (.plain _ _)

theorem fails_entered {i : Instr} (hi : isHeaderRow i = true) (o : Nat) :
    RaisesIn (s.entered o) (RowStep s i) := fun _ _ => .inl (.entered hi _ _ _)

theorem decodeEthernet_leads : Leads (decodeEthernet s 0) (RowStep s .ltEthernet) := by
  have hf := fails_entered s (i := .ltEthernet) rfl 0
  refine enter_leads hf fun hdepth => rdBytes_leads hf fun _ => rdBytes_leads hf fun _ =>
    rd16_leads hf fun _ => ite_leads
      (fun _ => rd16_leads hf fun _ => rd16_leads hf fun _ => next_leads <| .inr ?_)
      fun _ => next_leads <| .inr ?_
  · exact .link (by decide) hdepth (by simp [LinkHdr.sized]) (by simp [Selector.table])
  · exact .link (by decide) hdepth (by simp [LinkHdr.sized]) (by simp [Selector.table])

theorem decodeNull_leads : Leads (decodeNull s 0) (RowStep s .ltNull) := by
  have hf := fails_entered s (i := .ltNull) rfl 0
  exact enter_leads hf fun hdepth => rdBytes_leads hf fun _ => next_leads <| .inr <|
    .link (by decide) hdepth (by simp [LinkHdr.sized]) (by simp [Selector.table])

theorem decodeSll_leads : Leads (decodeSll s 0) (RowStep s .ltLinuxSll) := by
  have hf := fails_entered s (i := .ltLinuxSll) rfl 0
  exact enter_leads hf fun hdepth => rd16_leads hf fun _ => rd16_leads hf fun _ =>
    rd16_leads hf fun _ => rdBytes_leads hf fun _ => rd16_leads hf fun _ => next_leads <| .inr <|
    .link (by decide) hdepth (by simp [LinkHdr.sized, sllAddress]) (by simp [Selector.table])

theorem decodeLlc_leads : Leads (decodeLlc s 0) (RowStep s .ltLlc) := by
  have hf := fails_entered s (i := .ltLlc) rfl 0
  exact enter_leads hf fun hdepth => rd8_leads hf fun _ => rd8_leads hf fun _ =>
    next_leads <| .inr <| .link (by decide) hdepth rfl (by simp [Selector.table])

theorem llcRest_leads {i : Instr} (hi : i ∈ sapRows) (dsap ssap : Byte) :
    Leads (llcRest s dsap ssap) (RowStep s i) :=
  rd8_leads (fails_plain s i) fun _ => rd16_leads (fails_plain s i) fun _ =>
    next_leads <| .inr <| .llc hi

theorem decodeNetIpv4_leads {i : Instr} (hi : i ∈ netIpv4Rows) (hh : isHeaderRow i = true) :
    Leads (decodeIpv4 s s.work.next State.pushNetIpv4) (RowStep s i) :=
  decodeIpv4_leads (fails_entered s hh _) fun _ _ _ _ hdepth hsized _ _ =>
    .inr (.netIpv4 hi hdepth hsized)

theorem decodeNetIpv6_leads {i : Instr}
    (hi : i ∈ netIpv6Rows) (hh : isHeaderRow i = true) :
    Leads (decodeIpv6 s s.work.next State.pushNetIpv6) (RowStep s i) :=
  decodeIpv6_leads (fails_entered s hh _) fun _ _ _ _ hdepth hsized _ _ =>
    .inr (.netIpv6 hi hdepth hsized)

theorem decodeExt_leads {i : Instr}
    (hi : i ∈ extRows)
    (hh : isHeaderRow i = true) (p : Byte) : Leads (decodeExt s p) (RowStep s i) := by
  have hf := fails_entered s hh s.work.next
  unfold decodeExt
  refine enter_leads hf fun hdepth => rd8_leads hf fun hin => rd8_leads hf fun _ => ite_leads
    (fun _ => raise_leads (hf _ _)) fun _ => next_leads <| .inr <|
    .nested (List.mem_cons_of_mem _ (List.mem_cons_of_mem _ hi)) hdepth ?_ (lt_blen_of_readable hin) ?_
  · simp [ProtoHdr.sized, ExtHdr.sized, extensionLength]
  · simp only [extensionLength]; omega

theorem decodeNoNext_leads : Leads (decodeNoNext s s.work.next) (RowStep s .pNoNext) := by
  have hf := fails_entered s (i := .pNoNext) rfl s.work.next
  exact enter_leads hf fun hdepth => ite_leads (fun _ => raise_leads (hf _ _)) fun _ =>
    next_leads <| .inr <| .leaf (by decide) hdepth rfl

theorem decodeArp_leads : Leads (decodeArp s s.work.next) (RowStep s .etArp) := by
  have hf := fails_entered s (i := .etArp) rfl s.work.next
  refine enter_leads hf fun hdepth => rd16_leads hf fun _ => rd16_leads hf fun _ =>
    rd8_leads hf fun _ => rd8_leads hf fun _ => rd16_leads hf fun _ => ite_leads
    (fun _ => raise_leads (hf _ _)) fun hlens => rdBytes_leads hf fun _ => rdBytes_leads hf fun _ =>
    rdBytes_leads hf fun _ => rdBytes_leads hf fun _ => next_leads <| .inr <| .arp hdepth ?_
  obtain ⟨hhw, hproto⟩ := not_not.1 hlens
  simp [ArpRec.sized, hhw, hproto]

theorem decodeTcp_leads : Leads (decodeTcp s s.work.next) (RowStep s .pTcp) := by
  have hf := fails_entered s (i := .pTcp) rfl s.work.next
  refine enter_leads hf fun hdepth => rd16_leads hf fun _ => rd16_leads hf fun _ =>
    rd32_leads hf fun _ => rd32_leads hf fun _ => rd8_leads hf fun _ => rd8_leads hf fun _ =>
    ite_leads (fun _ => raise_leads (hf _ _)) fun hoff => rd16_leads hf fun _ =>
    rd16_leads hf fun _ => rd16_leads hf fun _ => next_leads <| .inr <| .tcp hdepth ?_
  have hmax := tcpDataOffset_lt ((s.entered s.work.next).u8 (s.work.next + 12))
  simp only [TcpRec.sized, TcpOptions.empty, Bool.and_true, Bool.and_eq_true, decide_eq_true_eq]
  omega

theorem decodeUdp_leads : Leads (decodeUdp s s.work.next) (RowStep s .pUdp) := by
  have hf := fails_entered s (i := .pUdp) rfl s.work.next
  exact enter_leads hf fun hdepth => rd16_leads hf fun _ => rd16_leads hf fun _ =>
    rd16_leads hf fun _ => rd16_leads hf fun _ => ite_leads (fun _ => raise_leads (hf _ _)) fun _ =>
    next_leads <| .inr <| .udp hdepth

theorem decodeIcmp_leads : Leads (decodeIcmp s s.work.next) (RowStep s .pIcmp) := by
  have hf := fails_entered s (i := .pIcmp) rfl s.work.next
  exact enter_leads hf fun hdepth => rd8_leads hf fun _ => rd8_leads hf fun _ =>
    rd16_leads hf fun _ => next_leads <| .inr <| .leaf (by decide) hdepth rfl

theorem decodeIgmp_leads : Leads (decodeIgmp s s.work.next) (RowStep s .pIgmp) := by
  have hf := fails_entered s (i := .pIgmp) rfl s.work.next
  exact enter_leads hf fun hdepth => rd8_leads hf fun _ => rd8_leads hf fun _ =>
    rd16_leads hf fun _ => rdBytes_leads hf fun _ => next_leads <| .inr <|
    .igmp hdepth (State.bytes_length _ _ _)

theorem execOptMss_leads : Leads (execOptMss s) (RowStep s .optMss) := by
  have hf := fails_plain s .optMss
  exact optFixed_leads hf fun _ => fits_leads hf fun _ => rd16_leads hf fun _ =>
    next_leads <| .inr <| .option (.inl rfl) (fun _ hl => .inl hl) (by omega)

theorem execOptWscale_leads : Leads (execOptWscale s) (RowStep s .optWscale) := by
  have hf := fails_plain s .optWscale
  exact optFixed_leads hf fun _ => fits_leads hf fun _ => rd8_leads hf fun _ =>
    next_leads <| .inr <| .option (.inl rfl) (fun _ hl => .inl hl) (by omega)

theorem execOptSackOk_leads : Leads (execOptSackOk s) (RowStep s .optSackOk) :=
  optFixed_leads (fails_plain s .optSackOk) fun _ =>
    next_leads <| .inr <| .option (.inl rfl) (fun _ hl => .inl hl) (by omega)

theorem execOptTs_leads : Leads (execOptTs s) (RowStep s .optTs) := by
  have hf := fails_plain s .optTs
  exact optFixed_leads hf fun _ => fits_leads hf fun _ => rd32_leads hf fun _ =>
    rd32_leads hf fun _ =>
    next_leads <| .inr <| .option (.inl rfl) (fun _ hl => .inl hl) (by omega)

theorem optExp_leads {i : Instr} (hi : i.table = .tcpopt) : Leads (optExp s) (RowStep s i) := by
  have hf := fails_plain s i
  exact optLen_leads hf fun _ => ite_leads (fun _ => raise_leads (hf _ _)) fun _ =>
    fits_leads hf fun _ =>
    next_leads <| .inr <| .option (.inl hi) (fun _ hl => .inl hl) (by omega)

theorem sackBlocks_leads {i : Instr} (hi : i.table = .sacklen) {n : Nat} (hn : 1 ≤ n ∧ n ≤ 4) :
    Leads (sackBlocks s n) (RowStep s i) := by
  have hf := fails_plain s i
  refine fits_leads hf fun hfits => sackPairs_leads hf fun l hl => next_leads <| .inr <|
    .option (.inr ⟨hi, by omega⟩) (fun l' hl' => .inr ?_) (by omega)
  cases hl'
  exact hl ▸ hn

theorem udpDns_leads {i : Instr} {p : BitVec 16} (hi : i = .udpDnsSrc p ∨ i = .udpDnsDst p) :
    Leads (udpDns s) (RowStep s i) := by
  have hf : ∀ base stop, RaisesIn (s.setCtx { s.ctx with dnsbase := base, dnsend := stop })
      (RowStep s i) := fun _ _ _ _ => .inl (.window hi _ _ _ _)
  unfold udpDns decodeDns
  exact drd16_leads (hf _ _) fun _ => drd16_leads (hf _ _) fun _ => drd16_leads (hf _ _) fun _ =>
    drd16_leads (hf _ _) fun _ => drd16_leads (hf _ _) fun _ => drd16_leads (hf _ _) fun _ =>
    next_leads <| .inr <| .dns hi (min_le_right _ _) rfl

theorem execDnsLabel_leads (length : BitVec 6) :
    Leads (execDnsLabel length s) (RowStep s (.dnsLabel length)) :=
  dbytes_leads (fails_plain s _) fun hin => next_leads <| .inr <| .label (State.bytes_length _ _ _) hin

/-- A pointer raises past the hop limit, where it has counted itself (R358, R360). -/
theorem execDnsPtr_leads (high : BitVec 6) : Leads (execDnsPtr high s) (RowStep s (.dnsPtr high)) :=
  drd8_leads (fails_plain s _) fun _ => ite_leads
    (fun _ => raise_leads <| .inl <| .pointer high .dnsPointerLimit s.work.dns.cur)
    fun hhops => next_leads <| .inr <| .pointer _ _ (Nat.not_lt.1 hhops)

theorem execRrAIn_leads : Leads (execRrAIn s) (RowStep s .rrAIn) :=
  ite_leads
    (fun _ => dbytes_leads (fails_plain s _) fun _ => next_leads <| .inr <|
      .record rfl (by simp [RData.sized]))
    fun _ => next_leads <| .inr <| .mismatch (by simp) _

theorem execRrAaaaIn_leads : Leads (execRrAaaaIn s) (RowStep s .rrAaaaIn) :=
  ite_leads
    (fun _ => dbytes_leads (fails_plain s _) fun _ => next_leads <| .inr <|
      .record rfl (by simp [RData.sized]))
    fun _ => next_leads <| .inr <| .mismatch (by simp) _

end

/-! ## The rows -/

/-- A row that always raises. -/
theorem raise_row (s : State) (i : Instr) (code : FatalCode) (a : Nat) :
    Leads (s.raise code a) (RowStep s i) := raise_leads (fails_plain s i _ _)

/-- Every row of the parser does one of the things listed. -/
theorem exec_leads (i : Instr) (s : State) (hi : isParserRow i = true) :
    Leads (exec i s) (RowStep s i) := by
  cases i with
  | ltEthernet => exact decodeEthernet_leads s
  | ltNull => exact decodeNull_leads s
  | ltRawIpv4 =>
    exact decodeIpv4_leads (s := s.setLink .raw) (fun _ _ => .inl (.entered rfl 0 _ _))
      fun _ _ _ _ hdepth hsized _ _ => .inr (.rawIpv4 hdepth hsized)
  | ltLinuxSll => exact decodeSll_leads s
  | ltLlc => exact decodeLlc_leads s
  | ltOther => exact raise_row s _ _ _
  | etIpv4 => exact decodeNetIpv4_leads s (by decide) rfl
  | etArp => exact decodeArp_leads s
  | etIpv6 => exact decodeNetIpv6_leads s (by decide) rfl
  | etLenLo => exact raise_row s _ _ _
  | etLenHi => exact raise_row s _ _ _
  | etUnknown => exact next_leads <| .inr <| .unknown _ _
  | nfInet => exact decodeNetIpv4_leads s (by decide) rfl
  | nfInet6_24 => exact decodeNetIpv6_leads s (by decide) rfl
  | nfInet6_28 => exact decodeNetIpv6_leads s (by decide) rfl
  | nfInet6_30 => exact decodeNetIpv6_leads s (by decide) rfl
  | nfOther => exact raise_row s _ _ _
  | llcSnap => exact llcRest_leads s (by decide) _ _
  | llcBasic => exact llcRest_leads s (by decide) _ _
  | llcBad => exact raise_row s _ _ _
  | pExt0 => exact decodeExt_leads s (by decide) rfl _
  | pIcmp => exact decodeIcmp_leads s
  | pIgmp => exact decodeIgmp_leads s
  | pIpv4 =>
    exact decodeIpv4_leads (fails_entered s rfl _) fun h _ _ _ hdepth hsized hin hnext =>
      .inr (.nested (h := .ipv4 h) (by decide) hdepth hsized hin hnext)
  | pTcp => exact decodeTcp_leads s
  | pUdp => exact decodeUdp_leads s
  | pIpv6 =>
    exact decodeIpv6_leads (fails_entered s rfl _) fun h _ _ _ hdepth hsized hin hnext =>
      .inr (.nested (h := .ipv6 h) (by decide) hdepth hsized hin hnext)
  | pExt43 => exact decodeExt_leads s (by decide) rfl _
  | pExt51 => exact decodeExt_leads s (by decide) rfl _
  | pNoNext => exact decodeNoNext_leads s
  | pExt60 => exact decodeExt_leads s (by decide) rfl _
  | pExt135 => exact decodeExt_leads s (by decide) rfl _
  | pExt139 => exact decodeExt_leads s (by decide) rfl _
  | pExt140 => exact decodeExt_leads s (by decide) rfl _
  | pUnknown => exact raise_row s _ _ _
  | optEol => exact next_leads <| .inr <| .option (.inl rfl) (fun _ hl => .inl hl) (.inr le_rfl)
  | optNop =>
    exact next_leads <| .inr <| .option (.inl rfl) (fun _ hl => .inl hl) (.inl (Nat.lt_succ_self _))
  | optMss => exact execOptMss_leads s
  | optWscale => exact execOptWscale_leads s
  | optSackOk => exact execOptSackOk_leads s
  | optSack => exact optLen_leads (fails_plain s _) fun _ => next_leads <| .inr <| .sack _
  | optTs => exact execOptTs_leads s
  | optExp254 => exact optExp_leads s rfl
  | optExp255 => exact optExp_leads s rfl
  | optBad => exact raise_row s _ _ _
  | sack1 => exact sackBlocks_leads s rfl (by omega)
  | sack2 => exact sackBlocks_leads s rfl (by omega)
  | sack3 => exact sackBlocks_leads s rfl (by omega)
  | sack4 => exact sackBlocks_leads s rfl (by omega)
  | sackBad => exact raise_row s _ _ _
  | dnsTerm => exact next_leads <| .inr <| .nameEnd _
  | dnsLabel length => exact execDnsLabel_leads s length
  | dnsPtr high => exact execDnsPtr_leads s high
  | dnsRsv01 => exact raise_row s _ _ _
  | dnsRsv10 => exact raise_row s _ _ _
  | rrAIn => exact execRrAIn_leads s
  | rrNsIn => exact next_leads <| .inr .nsName
  | rrAaaaIn => exact execRrAaaaIn_leads s
  | rrOther => exact next_leads <| .inr <| .record rfl rfl
  | arpRequest => exact next_leads <| .inr <| .arpClass rfl _
  | arpReply => exact next_leads <| .inr <| .arpClass rfl _
  | arpUnknown => exact next_leads <| .inr <| .arpClass rfl _
  | igmpQuery => exact next_leads <| .inr <| .igmpVersion rfl _
  | igmpV1Report => exact next_leads <| .inr <| .igmpVersion rfl _
  | igmpV2Report => exact next_leads <| .inr <| .igmpVersion rfl _
  | igmpLeave => exact next_leads <| .inr <| .igmpVersion rfl _
  | igmpV3Report => exact next_leads <| .inr <| .igmpVersion rfl _
  | igmpOther => exact next_leads <| .inr <| .igmpVersion rfl _
  | udpDnsSrc => exact udpDns_leads s (.inl rfl)
  | udpDnsDst => exact udpDns_leads s (.inr rfl)
  | udpPlain => exact next_leads <| .inr <| .udpPlain _ _
  | segSynNoAck => cases hi
  | segSynAck => cases hi
  | segAck => cases hi
  | segFin => cases hi

end Sys2Proof.Machine
end

section
/-! SUPPORT. What the rows write and what they leave alone (R31, R56, R89, R464, R471). -/

namespace Sys2Proof.Machine

/-! ## The updates that name a result -/

@[simp] theorem State.finishArp_eq (s : State) (c : ArpClass) :
    s.finishArp c = s.finishNet (.arp { s.work.arp with opClass := c }) := rfl

@[simp] theorem State.finishIgmp_eq (s : State) (v : Option IgmpVersion) :
    s.finishIgmp v = s.finishProto (.igmp { s.work.igmp with version := v }) := rfl

@[simp] theorem State.recordDone_eq (s : State) (data : RData) :
    s.recordDone data = (s.setDns { s.work.dns with
      records := s.work.dns.records ++ [{ s.work.dns.rr with rdata := data }]
      left := s.work.dns.left - 1
      cursor := s.work.dns.rdStart + s.work.dns.rr.rdlength.toNat }).setMode .sections := rfl

@[simp] theorem State.questionDone_eq (s : State) (q : Question) (c : Nat) :
    s.questionDone q c = (s.setDns { s.work.dns with
      questions := s.work.dns.questions ++ [q]
      left := s.work.dns.left - 1
      cursor := c }).setMode .sections := rfl

@[simp] theorem State.startName_eq (s : State) (c : Nat) (u : NameUse) :
    s.startName c u = ((s.setCtx { s.ctx with hops := 0 }).setDns
      { s.work.dns with labels := [], cur := c, resume := none, nameUse := u }).setMode .name := rfl

/-! ## What lies outside a request -/

/-- A step keeps the parameters, the calls, the request ports and the tracker. -/
structure KeepsOutside (s t : State) : Prop where
  cfg : t.cfg = s.cfg
  calls : t.calls = s.calls
  req : t.req = s.req
  registry : t.registry = s.registry
  obs : t.obs = s.obs
  observed : t.observed = s.observed

theorem RowFails.keepsOutside {s t : State} {i : Instr} (h : RowFails s i t) : KeepsOutside s t := by
  cases h <;> constructor <;> simp

theorem RowGoes.keepsOutside {s t : State} {i : Instr} (h : RowGoes s i t) : KeepsOutside s t := by
  cases h <;> constructor <;> simp

theorem RowStep.keepsOutside {s t : State} {i : Instr} (h : RowStep s i t) : KeepsOutside s t :=
  h.elim RowFails.keepsOutside RowGoes.keepsOutside

/-- A row that fails has answered `Err` with the diagnostics emitted before it (R464, R465): it has
written registers at most, and none of them is `DIAG`. -/
theorem RowFails.eq_raised {s t : State} {i : Instr} (h : RowFails s i t) :
    ∃ c code a, c.diag = s.ctx.diag ∧ t = (s.setCtx c).raised code a := by
  cases h with
  | plain code a => exact ⟨s.ctx, code, a, rfl, rfl⟩
  | entered hi o code a => exact ⟨(s.entered o).ctx, code, a, rfl, rfl⟩
  | pointer high code a => exact ⟨{ s.ctx with hops := s.ctx.hops + 1 }, code, a, rfl, rfl⟩
  | window hi base stop code a =>
    exact ⟨{ s.ctx with dnsbase := base, dnsend := stop }, code, a, rfl, rfl⟩

/-- A row that goes on keeps the request under way, and answers nothing. -/
structure StillRunning (s t : State) : Prop where
  parsing : t.parsing = true
  status : t.ctx.status = s.ctx.status
  err : t.ctx.err = s.ctx.err
  responses : t.responses = s.responses

theorem RowGoes.stillRunning {s t : State} {i : Instr} (h : RowGoes s i t) : StillRunning s t := by
  cases h <;> constructor <;> simp [State.parsing]

/-- Settles O42: a row either fails, and answers one `Err`, or goes on, and answers nothing; both keep
what lies outside the request. -/
theorem parserRowFrame : Obligations.ParserRowFrame := by
  unfold Obligations.ParserRowFrame
  intro i s t hi hexec
  have hstep := exec_leads i s hi t hexec
  obtain ⟨hcfg, hcalls, hreq, hregistry, hobs, hobserved⟩ := hstep.keepsOutside
  refine ⟨hcfg, hcalls, hreq, fun a => by rw [hreq], fun a => by rw [hreq], hregistry, hobs,
    hobserved, ?_⟩
  rcases hstep with hfails | hgoes
  · obtain ⟨c, code, a, hdiag, rfl⟩ := hfails.eq_raised
    exact .inr ⟨code, a, by simp [hdiag]⟩
  · exact .inl hgoes.stillRunning.responses

/-! ## The rows of the tracker -/

/-- A row of `TCPCLASS` is the flow's step, with the predicates as that row tests them (R146, R405). -/
theorem exec_trackerRow {i : Instr} (hi : isParserRow i = false) (s : State) :
    ∃ c, exec i s = runSegment c s := by
  cases i with
  | segSynNoAck flags => exact ⟨_, rfl⟩
  | segSynAck flags => exact ⟨_, rfl⟩
  | segAck flags => exact ⟨_, rfl⟩
  | segFin flags => exact ⟨_, rfl⟩
  | _ => cases hi

/-- The flow's step commits, if there is an `observe` call in progress. -/
theorem runSegment_leads (c : Classes) (s : State) :
    Leads (runSegment c s) fun t =>
      ∃ o, s.obs = some o ∧ t = s.commit o (flowStep s.cfg.seqWidth c o.flow o.seg) := by
  intro t ht
  cases ho : s.obs with
  | none => simp [runSegment, ho] at ht
  | some o =>
    rw [runSegment_some c s o ho] at ht
    cases ht
    exact ⟨o, rfl, rfl⟩

/-- Committing a flow leaves the parser, the memories and the calls alone (R471). -/
structure KeepsParser (s t : State) : Prop where
  cfg : t.cfg = s.cfg
  calls : t.calls = s.calls
  req : t.req = s.req
  ctx : t.ctx = s.ctx
  work : t.work = s.work
  responses : t.responses = s.responses

theorem State.commit_keepsParser (s : State) (o : Observation) (r : FlowStep) :
    KeepsParser s (s.commit o r) := ⟨rfl, rfl, rfl, rfl, rfl, rfl⟩

theorem exec_trackerRow_leads {i : Instr} (hi : isParserRow i = false) (s : State) :
    Leads (exec i s) fun t =>
      ∃ o c, s.obs = some o ∧ t = s.commit o (flowStep s.cfg.seqWidth c o.flow o.seg) := by
  intro t ht
  obtain ⟨c, hc⟩ := exec_trackerRow hi s
  obtain ⟨o, ho, rfl⟩ := runSegment_leads c s t (hc ▸ ht)
  exact ⟨o, c, ho, rfl⟩

@[simp] theorem State.commit_registry (s : State) (o : Observation) (r : FlowStep) :
    (s.commit o r).registry =
      if r.ended then mapErase s.registry o.key
      else mapInsert FlowKey.lt s.registry o.key { r.flow with fresh := false } := rfl

/-- Committing a flow writes its own entry of the registry only (R400, R428). -/
theorem mapFind_commit_other (s : State) (o : Observation) (r : FlowStep) {k : FlowKey}
    (hk : k ≠ o.key) : mapFind (s.commit o r).registry k = mapFind s.registry k := by
  rw [State.commit_registry]
  split
  · exact mapFind_erase_other _ _ hk
  · exact mapFind_insert_other _ _ _ _ hk

/-- The data rule of `ESTAB` emits at most one signal (R415). -/
theorem dataStep_sigs_length (width : Nat) (k : FlowKey) (d : Direction) (c : DirectionalCounters)
    (s : Segment) : (dataStep width k d c s).2.length ≤ 1 := by
  unfold dataStep
  split
  · exact Nat.zero_le 1
  · simp only
    split
    · exact Nat.le_refl 1
    · exact Nat.le_refl 1

/-- `ESTAB` emits at most one signal (R414 to R418). -/
theorem estabStep_sigs_length (width : Nat) (c : Classes) (fl : TcpFlow) (s : Segment) :
    (estabStep width c fl s).sigs.length ≤ 1 := by
  unfold estabStep
  split
  · exact dataStep_sigs_length _ _ _ _ _
  · split
    · exact dataStep_sigs_length _ _ _ _ _
    · exact Nat.le_refl 1

/-- The rule of a flow emits at most one signal (R405). -/
theorem flowStep_sigs_length (width : Nat) (c : Classes) (fl : TcpFlow) (s : Segment) :
    (flowStep width c fl s).sigs.length ≤ 1 := by
  unfold flowStep
  split
  · exact Nat.le_refl 1
  cases fl.state with
  | closed => simp only [closedStep]; split <;> exact Nat.zero_le 1
  | synSent => simp only [synSentStep]; split <;> simp [silent]
  | synRecv => simp only [synRecvStep]; split <;> simp [ignore, silent]
  | estab => exact estabStep_sigs_length width c fl s
  | finWait => simp only [finWaitStep]; split <;> exact Nat.zero_le 1
  | closeWait => simp only [closeWaitStep]; split <;> exact Nat.zero_le 1
  | closing => simp only [closingStep]; split <;> simp [endFlow, ignore, silent]
  | lastAck => simp only [lastAckStep]; split <;> simp [endFlow, ignore, silent]

/-- Settles O43: a row of `TCPCLASS` commits the flow under observation, which writes one entry of the
registry, and the flow's rule emits at most one signal. -/
theorem trackerRowFrame : Obligations.TrackerRowFrame := by
  unfold Obligations.TrackerRowFrame
  intro i s t hi hexec
  obtain ⟨o, c, ho, rfl⟩ := exec_trackerRow_leads hi s t hexec
  exact ⟨rfl, rfl, rfl, rfl, rfl, rfl, fun _ => rfl, fun _ => rfl, o, ho, rfl, rfl,
    fun _ => mapFind_commit_other s o _, _, rfl, flowStep_sigs_length _ _ _ _⟩

/-! ## Who writes each register -/

/-- The rows that write `SEL`: they dispatch or look a code up (R31, R32). -/
def selWriters : List Instr :=
  [.ltEthernet, .ltNull, .ltRawIpv4, .ltLinuxSll, .ltLlc, .etIpv4, .etArp, .etIpv6, .nfInet,
   .nfInet6_24, .nfInet6_28, .nfInet6_30, .llcSnap, .llcBasic, .pExt0, .pIgmp, .pIpv4, .pUdp,
   .pIpv6, .pExt43, .pExt51, .pExt60, .pExt135, .pExt139, .pExt140, .optSack]

/-- The rows that write `REM`: they dispatch on a protocol number (R31, R236). -/
def remWriters : List Instr :=
  [.ltRawIpv4, .etIpv4, .nfInet, .pIpv4, .etIpv6, .nfInet6_24, .nfInet6_28, .nfInet6_30,
   .pIpv6, .pExt0, .pExt43, .pExt51, .pExt60, .pExt135, .pExt139, .pExt140]

/-- The registers that are written by named rows alone (R31), from the context `c` to the context `d`. -/
structure WrittenByNamed (i : Instr) (c d : Ctx) : Prop where
  header : d.off ≠ c.off ∨ d.depth ≠ c.depth → isHeaderRow i = true
  sel : d.sel ≠ c.sel → i ∈ selWriters
  rem : d.rem ≠ c.rem → i ∈ remWriters
  hops : d.hops ≠ c.hops → i = .rrNsIn ∨ ∃ n, i = .dnsPtr n
  window : d.dnsbase ≠ c.dnsbase ∨ d.dnsend ≠ c.dnsend → ∃ p, i = .udpDnsSrc p ∨ i = .udpDnsDst p
  optend : d.optend ≠ c.optend → i = .pTcp
  diag : d.diag ≠ c.diag → i = .rrAIn ∨ i = .rrAaaaIn ∨ ∃ c, i = .etUnknown c

theorem WrittenByNamed.same (i : Instr) (c : Ctx) : WrittenByNamed i c c := by
  constructor <;> simp

theorem RowFails.writtenByNamed {s t : State} {i : Instr} (h : RowFails s i t) :
    WrittenByNamed i s.ctx t.ctx := by
  cases h with
  | plain => constructor <;> simp
  | entered hi => constructor <;> simp [hi]
  | pointer => constructor <;> simp
  | @window _ p hi =>
    have hw : ∃ p, i = .udpDnsSrc p ∨ i = .udpDnsDst p := ⟨p, hi⟩
    constructor <;> simp [hw]

theorem RowGoes.writtenByNamed {s t : State} {i : Instr} (h : RowGoes s i t) :
    WrittenByNamed i s.ctx t.ctx := by
  cases h with
  | link hi =>
    have hw := (by decide : ∀ i ∈ linkRows,
      isHeaderRow i = true ∧ i ∈ selWriters) _ hi
    constructor <;> simp [hw]
  | llc hi =>
    have hw := (by decide : ∀ i ∈ sapRows, i ∈ selWriters) _ hi
    constructor <;> simp [hw]
  | rawIpv4 => constructor <;> simp [isHeaderRow, selWriters, remWriters]
  | netIpv4 hi =>
    have hw := (by decide : ∀ i ∈ netIpv4Rows,
      isHeaderRow i = true ∧ i ∈ selWriters ∧ i ∈ remWriters) _ hi
    constructor <;> simp [hw]
  | netIpv6 hi =>
    have hw := (by decide : ∀ i ∈ netIpv6Rows,
      isHeaderRow i = true ∧ i ∈ selWriters ∧ i ∈ remWriters) _ hi
    constructor <;> simp [hw]
  | nested hi =>
    have hw := (by decide : ∀ i ∈ nestedRows, isHeaderRow i = true ∧ i ∈ selWriters ∧ i ∈ remWriters) _ hi
    constructor <;> simp [hw]
  | leaf hi =>
    have hw := (by decide : ∀ i ∈ leafRows, isHeaderRow i = true) _ hi
    constructor <;> simp [hw]
  | arp => constructor <;> simp [isHeaderRow, selWriters]
  | igmp => constructor <;> simp [isHeaderRow, selWriters]
  | udp => constructor <;> simp [isHeaderRow, selWriters]
  | tcp => constructor <;> simp [isHeaderRow]
  | sack => constructor <;> simp [selWriters]
  | @dns _ p hi =>
    have hw : ∃ p, i = .udpDnsSrc p ∨ i = .udpDnsDst p := ⟨p, hi⟩
    constructor <;> simp [hw]
  | mismatch hi =>
    have hw : i = .rrAIn ∨ i = .rrAaaaIn ∨ ∃ c, i = .etUnknown c := by
      simp only [List.mem_cons, List.not_mem_nil, or_false] at hi
      exact hi.imp_right .inl
    constructor <;> simp [hw]
  | arpClass | unknown | igmpVersion | option | udpPlain | nameEnd | label | pointer | record
  | nsName => constructor <;> simp

/-- Settles O41: a row of the tracker writes no register, a row of the parser fails or goes on, and each
of its ways writes what the register table says. -/
theorem registerWriters : Obligations.RegisterWriters := by
  unfold Obligations.RegisterWriters
  intro i s t hexec
  have hnamed : WrittenByNamed i s.ctx t.ctx ∧
      (t.ctx.status ≠ s.ctx.status ∨ t.ctx.err ≠ s.ctx.err → t.ctx.status = .fatal ∧ t.mode = .idle) := by
    cases hi : isParserRow i with
    | true =>
      rcases exec_leads i s hi t hexec with hfails | hgoes
      · obtain ⟨c, code, a, _, rfl⟩ := hfails.eq_raised
        exact ⟨hfails.writtenByNamed, fun _ => ⟨rfl, rfl⟩⟩
      · have hsame := hgoes.stillRunning
        exact ⟨hgoes.writtenByNamed, fun hne => absurd hne (by simp [hsame.status, hsame.err])⟩
    | false =>
      obtain ⟨o, c, _, rfl⟩ := exec_trackerRow_leads hi s t hexec
      exact ⟨.same i s.ctx, fun hne => absurd hne (by simp [(s.commit_keepsParser o _).ctx])⟩
  obtain ⟨⟨header, sel, rem, hops, window, optend, diag⟩, ended⟩ := hnamed
  exact ⟨header, sel, rem, hops, window, optend, diag, ended⟩

end Sys2Proof.Machine
end

section
/-! SUPPORT. Everything that a step of a request can do (R177): run the row that it fetches, or the work
between two rows. -/

namespace Sys2Proof.Machine

/-! ## What a step of a request can answer -/

/-- The state in which a step of a request runs a row: the row is selected, or it is looked up at the head
of the option loop or of the name loop (R294, R355). -/
inductive RunsRowIn (s : State) : State → Prop
  | row (hm : s.mode = .row) : RunsRowIn s s
  | option (hm : s.mode = .options) (hin : s.work.cur < s.ctx.optend) (kind : Byte) :
    RunsRowIn s (s.look (.tcpopt kind))
  | label (hm : s.mode = .name) (b : Byte) : RunsRowIn s (s.look (.dnslabel b))

/-- The answers of the work after a name and at the head of the section loops. -/
inductive DnsStep (s : State) : State → Prop
  /-- A question is complete (R353). -/
  | question (hm : s.mode = .afterName) {q : Question} (hname : q.name = s.work.dns.labels) (c : Nat) :
    DnsStep s (s.questionDone q c)
  /-- The fixed fields of a record are read (R354). -/
  | fields (hm : s.mode = .afterName) (huse : s.work.dns.nameUse = .owner) {rr : RR}
    (hname : rr.name = s.work.dns.labels) (hdata : rr.rdata = .unresolved) (start : Nat)
    (code : BitVec 32) :
    DnsStep s ((s.setDns { s.work.dns with rr := rr, rdStart := start }).look (.dnsrr code))
  /-- The name in an NS record is complete (R363). -/
  | nsData (hm : s.mode = .afterName) : DnsStep s (s.recordDone (.ns s.work.dns.labels))
  /-- A section is complete (R352). -/
  | sectionEnd (hm : s.mode = .sections) {k : SectionKind} (hk : s.work.dns.current = some k) :
    DnsStep s (s.setDns { s.work.dns with
      msg := s.work.dns.msg.store s.work.dns.questions s.work.dns.records k, current := none,
      questions := [], records := [] })
  /-- The next record of a section begins with its name (R353, R354). -/
  | record (hm : s.mode = .sections) {k : SectionKind} (hk : s.work.dns.current = some k)
    (hleft : s.work.dns.left ≠ 0) {u : NameUse} (huse : u ≠ .nsData) :
    DnsStep s (s.startName s.work.dns.cursor u)
  /-- A section within the ceiling is opened (R352). -/
  | opened (hm : s.mode = .sections) (hk : s.work.dns.current = none) {k : SectionKind}
    {later : List SectionKind} (hlater : s.work.dns.pending = k :: later) (count : Nat) :
    DnsStep s (s.setDns { s.work.dns with
      pending := later, current := some k, left := count, questions := [], records := [] })
  /-- A section above the ceiling ends the message, and is marked with the sections after it (R352). -/
  | ceiling (hm : s.mode = .sections) (hk : s.work.dns.current = none) {k : SectionKind}
    {later : List SectionKind} (hlater : s.work.dns.pending = k :: later) (d : Diag) :
    DnsStep s ((s.addDiag d).setDns { s.work.dns with
      msg := (s.work.dns.msg.malform .ceiling k).skip later, pending := [], current := none })
  /-- The message is complete (R350). -/
  | message (hm : s.mode = .sections) :
    DnsStep s (s.finishProto (.udp { s.work.udp with dns := some s.work.dns.msg }))

/-- The network payload that a request delivers (R175). -/
inductive Delivers (s : State) : NetPayload → Prop
  | net {np : NetPayload} (hm : s.mode = .deliverNet np) : Delivers s np
  | proto {p : ProtoPayload} {h : NetHdr} (hm : s.mode = .deliverProto p) (hn : s.work.net = some h) :
    Delivers s (h.wrap (wrapInner s.work.inner p))

/-- What a step of a request can answer. -/
inductive ParseStep (s : State) : State → Prop
  | row {u t : State} {i : Instr} (hu : RunsRowIn s u) (hi : decode s.cfg u.ctx.sel = .ok i)
    (ht : RowStep u i t) : ParseStep s t
  | fails (code : FatalCode) (a : Nat) : ParseStep s (s.raised code a)
  | tcpDone (hm : s.mode = .options) {r : TcpRec} (hlen : r.headerLength = s.work.tcp.headerLength)
    (hopts : r.options = s.work.tcp.options) : ParseStep s (s.finishProto (.tcp r))
  | dns {t : State} (ht : DnsStep s t) : ParseStep s t
  | answers {np : NetPayload} (hnp : Delivers s np) : ParseStep s (s.respond np)

/-! ## The work between two rows -/

section
variable (s : State)

theorem raises_parseStep : RaisesIn s (ParseStep s) := fun code a => .fails code a

theorem tcpFinish_leads (hm : s.mode = .options) : Leads (tcpFinish s) (ParseStep s) :=
  ite_leads (fun _ => raise_leads (raises_parseStep s _ _)) fun _ => ite_leads
    (fun _ => next_leads <| .tcpDone hm rfl rfl) fun _ => next_leads <| .tcpDone hm rfl rfl

/-- The fields after a name: one case for each use of the name (R353, R354, R363). -/
theorem afterName_leads (hm : s.mode = .afterName) : Leads (afterName s) (ParseStep s) := by
  have hf := raises_parseStep s
  simp only [afterName]
  split
  · exact drd16_leads hf fun _ => drd16_leads hf fun _ =>
      next_leads <| .dns <| .question (q := { name := s.work.dns.labels, .. }) hm rfl _
  · next huse =>
    exact drd16_leads hf fun _ => drd16_leads hf fun _ => drd32_leads hf fun _ =>
      drd16_leads hf fun _ => ite_leads (fun _ => raise_leads (hf _ _)) fun _ =>
      next_leads <| .dns <|
        .fields (rr := { name := s.work.dns.labels, rdata := .unresolved, .. }) hm huse rfl rfl _ _
  · exact next_leads <| .dns <| .nsData hm

/-- The head of the section loops: the section under way, the next one, or the end (R350, R352). -/
theorem sectionsHead_leads (hm : s.mode = .sections) : Leads (sectionsHead s) (ParseStep s) := by
  simp only [sectionsHead]
  cases hk : s.work.dns.current with
  | some k =>
    refine ite_leads (fun _ => next_leads <| .dns <| .sectionEnd hm hk) fun hleft =>
      next_leads <| .dns <| .record hm hk hleft ?_
    split <;> simp
  | none =>
    cases hlater : s.work.dns.pending with
    | nil => exact next_leads <| .dns <| .message hm
    | cons k later =>
      simp only [openSection]
      split
      · exact next_leads <| .dns <| .ceiling hm hk hlater _
      · exact next_leads <| .dns <| .opened hm hk hlater _

/-! ## The step -/

/-- The row of a state whose selector is in a table of the parser. -/
theorem fetchRow_leads {u : State} (hu : RunsRowIn s u) (hsel : u.ctx.sel.table ≠ .tcpclass) :
    Leads (fetchRow u).outcome (ParseStep s) := by
  have hcfg : u.cfg = s.cfg := by cases hu <;> simp
  obtain ⟨i, hi, hrow⟩ := decode_parserRow u.cfg u.ctx.sel hsel
  simp only [fetchRow, hi, Fetched.outcome]
  exact (exec_leads i u hrow).imp fun t ht => .row hu (hcfg ▸ hi) ht

theorem fetchOption_leads (hm : s.mode = .options) :
    Leads (fetchOption s).outcome (ParseStep s) := by
  simp only [fetchOption, apply_ite Fetched.outcome]
  exact ite_leads
    (fun hin => ite_leads (fun _ => fetchRow_leads s (.option hm hin _) nofun)
      fun _ => raise_leads (raises_parseStep s _ _))
    fun _ => tcpFinish_leads s hm

theorem fetchLabel_leads (hm : s.mode = .name) : Leads (fetchLabel s).outcome (ParseStep s) := by
  simp only [fetchLabel, apply_ite Fetched.outcome]
  exact ite_leads (fun _ => fetchRow_leads s (.label hm _) nofun)
    fun _ => raise_leads (raises_parseStep s _ _)

theorem deliverProto_leads {p : ProtoPayload} (hm : s.mode = .deliverProto p) :
    Leads (deliverProto s p) (ParseStep s) := by
  cases hn : s.work.net with
  | none => intro t ht; simp [deliverProto, hn] at ht
  | some h =>
    rw [deliverProto_some s p h hn]
    exact next_leads <| .answers <| .proto hm hn

/-- Every step of a request does one of the things listed. -/
theorem step_leads (hp : s.parsing = true) (hsel : s.selOk) : Leads (step s) (ParseStep s) := by
  rw [step_eq]
  unfold fetch
  unfold State.parsing at hp
  cases hm : s.mode with
  | idle => simp [hm] at hp
  | observe => simp [hm] at hp
  | row => exact fetchRow_leads s (.row hm) (hsel hm)
  | options => exact fetchOption_leads s hm
  | name => exact fetchLabel_leads s hm
  | afterName => exact afterName_leads s hm
  | sections => exact sectionsHead_leads s hm
  | deliverNet p => exact next_leads <| .answers <| .net hm
  | deliverProto p => exact deliverProto_leads s hm

end

/-! ## How a request ends -/

theorem KeepsOutside.trans {s u t : State} (h : KeepsOutside s u) (h' : KeepsOutside u t) :
    KeepsOutside s t where
  cfg := h'.cfg.trans h.cfg
  calls := h'.calls.trans h.calls
  req := h'.req.trans h.req
  registry := h'.registry.trans h.registry
  obs := h'.obs.trans h.obs
  observed := h'.observed.trans h.observed

theorem RunsRowIn.keepsOutside {s u : State} (h : RunsRowIn s u) : KeepsOutside s u := by
  cases h <;> constructor <;> simp

theorem DnsStep.keepsOutside {s t : State} (h : DnsStep s t) : KeepsOutside s t := by
  cases h <;> constructor <;> simp

theorem ParseStep.keepsOutside {s t : State} (h : ParseStep s t) : KeepsOutside s t := by
  cases h with
  | row hu _ ht => exact hu.keepsOutside.trans ht.keepsOutside
  | dns ht => exact ht.keepsOutside
  | fails | tcpDone | answers => constructor <;> simp

theorem DnsStep.stillRunning {s t : State} (h : DnsStep s t) : StillRunning s t := by
  cases h <;> constructor <;> simp [State.parsing, *]

/-- Looking a row up changes `SEL` and the mode, and neither is left in a raised state. -/
theorem RunsRowIn.eq_raised {s u t : State} {i : Instr} (hu : RunsRowIn s u) (ht : RowFails u i t) :
    ∃ c code a, c.diag = s.ctx.diag ∧ t = (s.setCtx c).raised code a := by
  obtain ⟨c, code, a, hdiag, rfl⟩ := ht.eq_raised
  cases hu <;> exact ⟨c, code, a, hdiag, rfl⟩

theorem RunsRowIn.stillRunning {s u t : State} {i : Instr} (hu : RunsRowIn s u)
    (ht : RowGoes u i t) : StillRunning s t := by
  obtain ⟨hparsing, hstatus, herr, hresponses⟩ := ht.stillRunning
  cases hu <;> exact ⟨hparsing, hstatus, herr, hresponses⟩

/-- A step of a request ends it with a fatal error, ends it with a frame, or goes on (R464, R465). -/
theorem ParseStep.ends_or_goesOn {s t : State} (h : ParseStep s t) :
    (∃ c code a, c.diag = s.ctx.diag ∧ t = (s.setCtx c).raised code a) ∨ (∃ np, t = s.respond np) ∨
      StillRunning s t := by
  cases h with
  | row hu _ ht =>
    rcases ht with hfails | hgoes
    · exact .inl (hu.eq_raised hfails)
    · exact .inr (.inr (hu.stillRunning hgoes))
  | fails code a => exact .inl ⟨s.ctx, code, a, rfl, rfl⟩
  | tcpDone => exact .inr (.inr (by constructor <;> simp [State.parsing]))
  | dns ht => exact .inr (.inr ht.stillRunning)
  | @answers np => exact .inr (.inl ⟨np, rfl⟩)

/-- Settles O40: the three ways in which a step of a request leaves `STATUS`. -/
theorem raiseEffect : Obligations.RaiseEffect := by
  unfold Obligations.RaiseEffect
  intro s t hp hok hrunning hstep
  have hends := (step_leads s hp (State.selOk_of_modeOk hok) t hstep).ends_or_goesOn
  rcases hends with ⟨c, code, a, hdiag, rfl⟩ | ⟨np, rfl⟩ | hgoes
  · exact ⟨fun _ => ⟨rfl, rfl, hdiag, code, a, rfl, by simp [hdiag]⟩, nofun, nofun⟩
  · exact ⟨nofun, fun _ => ⟨rfl, rfl, rfl, s.frame np, by simp⟩, nofun⟩
  · have hstatus : t.ctx.status = .running := hgoes.status.trans hrunning
    refine ⟨fun h => ?_, fun h => ?_, fun _ => ⟨fun hidle => ?_, hgoes.err, hgoes.responses⟩⟩
    · cases hstatus.symm.trans h
    · cases hstatus.symm.trans h
    · simpa [State.parsing, hidle] using hgoes.parsing

end Sys2Proof.Machine
end

section
/-! SUPPORT. The steps outside a request: taking a call (R170, R400, R502), the flow's step (R405), and the
frame of a finished payload (R175). -/

namespace Sys2Proof.Machine

/-! ## Taking a call -/

/-- What an idle block can answer: nothing to do, a request that starts or finds its buffer too short
(R172), or the start of an `observe` call. -/
inductive TakesCall (s : State) : State → Prop
  | nothing (hcalls : s.calls = []) : TakesCall s s
  | decode {lt : BitVec 3} {header : Memory} {buf : Buffer} {rest : List Call}
    (hcalls : s.calls = .decode lt header buf :: rest)
    (hlen : (parseHeader header).capturedLength.toNat ≤ buf.len) :
    TakesCall s
      { s with
        calls := rest, mode := .row, ctx := Ctx.reset lt, work := Work.empty
        req := { linkType := lt, header := header, hdr := parseHeader header, buf := buf,
                 blen := (parseHeader header).capturedLength.toNat } }
  | short {lt : BitVec 3} {header : Memory} {buf : Buffer} {rest : List Call}
    (hcalls : s.calls = .decode lt header buf :: rest)
    (hlen : buf.len < (parseHeader header).capturedLength.toNat) :
    TakesCall s
      { s with
        calls := rest, mode := .idle, work := Work.empty
        ctx := { Ctx.reset lt with status := .fatal, err := some (.bufferShort, 0) }
        req := { linkType := lt, header := header, hdr := parseHeader header, buf := buf, blen := 0 }
        responses := s.responses ++ [.err .bufferShort 0 []] }
  | observe {f : DecodedFrame} {rest : List Call} (hcalls : s.calls = .observe f :: rest) :
    TakesCall s (beginObserve { s with calls := rest } f)

theorem step_idle {s : State} (hm : s.mode = .idle) : step s = takeCall s := by
  rw [step_eq, fetch, hm]
  rfl

/-- A call whose buffer holds the captured bytes starts a request (R80, R170). -/
theorem takeCall_decode {s : State} {lt : BitVec 3} {header : Memory} {buf : Buffer}
    {rest : List Call} (hcalls : s.calls = .decode lt header buf :: rest)
    (hlen : (parseHeader header).capturedLength.toNat ≤ buf.len) :
    takeCall s = .next
      { s with
        calls := rest, mode := .row, ctx := Ctx.reset lt, work := Work.empty
        req := { linkType := lt, header := header, hdr := parseHeader header, buf := buf,
                 blen := (parseHeader header).capturedLength.toNat } } := by
  simp only [takeCall, hcalls]
  exact if_neg (Nat.not_lt.2 hlen)

/-- A call whose buffer is shorter than that fails at once (R172). -/
theorem takeCall_short {s : State} {lt : BitVec 3} {header : Memory} {buf : Buffer}
    {rest : List Call} (hcalls : s.calls = .decode lt header buf :: rest)
    (hlen : buf.len < (parseHeader header).capturedLength.toNat) :
    takeCall s = .next
      { s with
        calls := rest, mode := .idle, work := Work.empty
        ctx := { Ctx.reset lt with status := .fatal, err := some (.bufferShort, 0) }
        req := { linkType := lt, header := header, hdr := parseHeader header, buf := buf, blen := 0 }
        responses := s.responses ++ [.err .bufferShort 0 []] } := by
  simp only [takeCall, hcalls]
  exact if_pos hlen

theorem takeCall_observe {s : State} {f : DecodedFrame} {rest : List Call}
    (hcalls : s.calls = .observe f :: rest) :
    takeCall s = .next (beginObserve { s with calls := rest } f) := by
  simp only [takeCall, hcalls]

theorem takeCall_leads (s : State) : Leads (takeCall s) (TakesCall s) := by
  cases hcalls : s.calls with
  | nil => simp only [takeCall, hcalls]; exact next_leads (.nothing hcalls)
  | cons call rest =>
    cases call with
    | decode lt header buf =>
      rcases Nat.lt_or_ge buf.len (parseHeader header).capturedLength.toNat with hlen | hlen
      · rw [takeCall_short hcalls hlen]; exact next_leads (.short hcalls hlen)
      · rw [takeCall_decode hcalls hlen]; exact next_leads (.decode hcalls hlen)
    | observe f => rw [takeCall_observe hcalls]; exact next_leads (.observe hcalls)

/-- Settles O9: the two outcomes of the buffer contract. -/
theorem requestStart : Obligations.RequestStart := by
  unfold Obligations.RequestStart
  intro s lt header buf rest hm hcalls
  rw [step_idle hm]
  exact ⟨takeCall_decode hcalls, takeCall_short hcalls⟩

/-! ## The start of an `observe` call -/

/-- A frame that is not tracked (R401). -/
theorem beginObserve_untracked {s : State} {f : DecodedFrame} (hseg : segmentOf s.cfg f = none) :
    beginObserve s f = s.observed1 [] := by
  simp only [beginObserve, hseg]

/-- A segment of a flow that the registry holds (R404). -/
theorem beginObserve_known {s : State} {f : DecodedFrame} {seg : Segment} {fl : TcpFlow}
    (hseg : segmentOf s.cfg f = some seg)
    (hfind : mapFind s.registry (flowKey seg.src seg.dst) = some fl) :
    beginObserve s f =
      { s with
        mode := .observe
        obs := some { seg := seg, key := flowKey seg.src seg.dst, flow := fl, out := [],
                      row := classRow fl seg } } := by
  simp only [beginObserve, hseg, hfind]

/-- A segment of an unseen flow, with room for it (R404, R426). -/
theorem beginObserve_new {s : State} {f : DecodedFrame} {seg : Segment}
    (hseg : segmentOf s.cfg f = some seg)
    (hfind : mapFind s.registry (flowKey seg.src seg.dst) = none)
    (hroom : hasRoom s.cfg s.registry = true) :
    beginObserve s f =
      { s with
        mode := .observe
        obs := some { seg := seg, key := flowKey seg.src seg.dst
                      flow := newFlow (flowKey seg.src seg.dst)
                      out := [{ code := .session, key := flowKey seg.src seg.dst, arg := .none }]
                      row := classRow (newFlow (flowKey seg.src seg.dst)) seg } } := by
  simp only [beginObserve, hseg, hfind, if_pos hroom]

/-- A segment of an unseen flow, without room for it (R426). -/
theorem beginObserve_full {s : State} {f : DecodedFrame} {seg : Segment}
    (hseg : segmentOf s.cfg f = some seg)
    (hfind : mapFind s.registry (flowKey seg.src seg.dst) = none)
    (hroom : hasRoom s.cfg s.registry = false) :
    beginObserve s f =
      s.observed1 [{ code := .registryFull, key := flowKey seg.src seg.dst, arg := .none }] := by
  simp only [beginObserve, hseg, hfind, hroom]
  rfl

/-- There is room when the bound, if any, is not reached (R426). -/
theorem hasRoom_iff {cfg : Config} {registry : List (FlowKey × TcpFlow)} :
    hasRoom cfg registry = true ↔ ∀ n, cfg.flowCapacity = some n → registry.length < n := by
  unfold hasRoom
  cases cfg.flowCapacity <;> simp

/-- Settles O46: the four starts of an `observe` call. -/
theorem observeStart : Obligations.ObserveStart := by
  unfold Obligations.ObserveStart
  intro s f rest hm hcalls
  rw [step_idle hm, takeCall_observe hcalls]
  refine ⟨fun hseg => ?_, fun seg hseg => ⟨fun fl hfind => ?_, fun hfind hroom => ?_,
    fun n hfind hcap hfull => ?_⟩⟩
  · exact congrArg _ (beginObserve_untracked (s := { s with calls := rest }) hseg)
  · exact congrArg _ (beginObserve_known (s := { s with calls := rest }) hseg hfind)
  · exact congrArg _
      (beginObserve_new (s := { s with calls := rest }) hseg hfind (hasRoom_iff.2 hroom))
  · have hroom : hasRoom s.cfg s.registry = false := by
      rw [Bool.eq_false_iff]
      exact fun h => absurd (hasRoom_iff.1 h n hcap) (Nat.not_lt.2 hfull)
    exact congrArg _ (beginObserve_full (s := { s with calls := rest }) hseg hfind hroom)

/-- What the start of an `observe` call can answer: a signal list at once, or a segment to step on. -/
theorem beginObserve_cases (s : State) (f : DecodedFrame) :
    (∃ out, beginObserve s f = s.observed1 out) ∨
      ∃ o, beginObserve s f = { s with mode := .observe, obs := some o } := by
  cases hseg : segmentOf s.cfg f with
  | none => exact .inl ⟨_, beginObserve_untracked hseg⟩
  | some seg =>
    cases hfind : mapFind s.registry (flowKey seg.src seg.dst) with
    | some fl => exact .inr ⟨_, beginObserve_known hseg hfind⟩
    | none =>
      cases hroom : hasRoom s.cfg s.registry with
      | true => exact .inr ⟨_, beginObserve_new hseg hfind hroom⟩
      | false => exact .inl ⟨_, beginObserve_full hseg hfind hroom⟩

/-! ## The step of an `observe` call -/

/-- The answer of an `observe` call: the flow's step is committed (R400, R405). -/
def Commits (s t : State) : Prop :=
  ∃ o c, s.obs = some o ∧ t = s.commit o (flowStep s.cfg.seqWidth c o.flow o.seg)

theorem observeOther_leads (s : State) : Leads (observeOther s) (Commits s) := by
  cases ho : s.obs with
  | none => intro t ht; simp [observeOther, ho] at ht
  | some o =>
    simp only [observeOther, ho]
    exact (runSegment_leads _ s).imp fun _ ⟨o, ho, ht⟩ => ⟨o, _, ho, ht⟩

/-- A tested row of `TCPCLASS` that matches is a row of the tracker (R146). -/
theorem decodeClass_trackerRow {r : ClassRow} {flags : BitVec 9} {i : Instr}
    (h : decodeClass r flags = .ok i) : isParserRow i = false := by
  unfold decodeClass at h
  split at h
  · cases r <;> cases h <;> rfl
  · cases h

/-- The step of an `observe` call commits, whether the tested row matches or not. -/
theorem fetchClass_leads (s : State) : Leads (fetchClass s).outcome (Commits s) := by
  unfold fetchClass
  split
  · exact observeOther_leads s
  · split
    · exact observeOther_leads s
    · split
      · next i hi => exact exec_trackerRow_leads (decodeClass_trackerRow hi) s
      · exact observeOther_leads s

theorem step_observe {s : State} (hm : s.mode = .observe) : Leads (step s) (Commits s) := by
  rw [step_eq, fetch, hm]
  exact fetchClass_leads s

/-! ## What no step writes -/

/-- What an idle block answers keeps every memory canonical: the ports take the memories of the call. -/
theorem TakesCall.memoryCanonical {s t : State} (h : TakesCall s t)
    (hmem : s.memoryCanonical = true) : t.memoryCanonical = true ∧ t.cfg = s.cfg := by
  cases h with
  | nothing => exact ⟨hmem, rfl⟩
  | decode hcalls | short hcalls =>
    simp only [State.memoryCanonical, hcalls, List.all_cons, Call.wf, Bool.and_eq_true] at hmem ⊢
    obtain ⟨_, hcall, hrest⟩ := hmem
    exact ⟨⟨hcall, hrest⟩, trivial⟩
  | @observe f rest hcalls =>
    simp only [State.memoryCanonical, hcalls, List.all_cons, Call.wf, Bool.true_and] at hmem
    rcases beginObserve_cases { s with calls := rest } f with ⟨out, h⟩ | ⟨o, h⟩
    · rw [h]; exact ⟨hmem, rfl⟩
    · rw [h]; exact ⟨hmem, rfl⟩

/-- The memories are those of the request ports and of the calls. -/
theorem memoryCanonical_congr {s t : State} (hcalls : t.calls = s.calls) (hreq : t.req = s.req) :
    t.memoryCanonical = s.memoryCanonical := by
  simp only [State.memoryCanonical, hcalls, hreq]

/-- A row keeps the parameters, the calls and the request ports, whatever its table. -/
theorem exec_keeps {i : Instr} {s t : State} (h : exec i s = .next t) :
    t.cfg = s.cfg ∧ t.calls = s.calls ∧ t.req = s.req := by
  cases hi : isParserRow i with
  | true =>
    have hkeeps := (exec_leads i s hi t h).keepsOutside
    exact ⟨hkeeps.cfg, hkeeps.calls, hkeeps.req⟩
  | false =>
    obtain ⟨o, c, _, rfl⟩ := exec_trackerRow_leads hi s t h
    exact ⟨rfl, rfl, rfl⟩

/-- A busy block that observes no segment is at a request. -/
theorem parsing_of_mode {s : State} (hidle : s.mode ≠ .idle) (hobserve : s.mode ≠ .observe) :
    s.parsing = true := by
  unfold State.parsing
  split
  · next hm => exact absurd hm hidle
  · next hm => exact absurd hm hobserve
  · rfl

/-- A step of a busy block keeps the parameters, the calls and the request ports, even where a row of the
tracker stands in the parser's selector. -/
theorem step_keeps {s t : State} (hidle : s.mode ≠ .idle) (h : step s = .next t) :
    t.cfg = s.cfg ∧ t.calls = s.calls ∧ t.req = s.req := by
  by_cases hobserve : s.mode = .observe
  · obtain ⟨o, c, _, rfl⟩ := step_observe hobserve t h
    exact ⟨rfl, rfl, rfl⟩
  by_cases hsel : s.selOk
  · have hkeeps := (step_leads s (parsing_of_mode hidle hobserve) hsel t h).keepsOutside
    exact ⟨hkeeps.cfg, hkeeps.calls, hkeeps.req⟩
  · have hm : s.mode = .row := by
      by_contra hm
      exact hsel fun hrow => absurd hrow hm
    rw [step_eq, fetch, hm] at h
    simp only [fetchRow] at h
    split at h
    · exact exec_keeps h
    · cases h

/-- Settles O54: a busy block writes no memory, and an idle one takes over those of the call. -/
theorem memoryKeptCanonical : Obligations.MemoryKeptCanonical := by
  unfold Obligations.MemoryKeptCanonical
  intro s t hmem hstep
  by_cases hidle : s.mode = .idle
  · rw [step_idle hidle] at hstep
    exact (takeCall_leads s t hstep).memoryCanonical hmem
  · obtain ⟨hcfg, hcalls, hreq⟩ := step_keeps hidle hstep
    exact ⟨by rw [memoryCanonical_congr hcalls hreq, hmem], hcfg⟩

/-! ## Reset and delivery -/

/-- Settles O7: the reset state is evaluated; it holds no memory, no record and no flow. -/
theorem resetSafe : Obligations.ResetSafe := by
  unfold Obligations.ResetSafe
  decide

theorem step_deliverProto {s : State} {p : ProtoPayload} {h : NetHdr}
    (hm : s.mode = .deliverProto p) (hn : s.work.net = some h) :
    step s = .next (s.respond (h.wrap (wrapInner s.work.inner p))) := by
  rw [step_eq, fetch, hm]
  exact deliverProto_some s p h hn

/-- Settles O35: a finished payload is delivered as the response, and wrapping peels off the innermost
header first. -/
theorem frameDelivery : Obligations.FrameDelivery := by
  unfold Obligations.FrameDelivery
  intro s
  refine ⟨fun np hm => ?_, fun p h hm hn => step_deliverProto hm hn,
    fun p h hm hn => step_deliverProto hm hn, fun _ => rfl, fun _ _ _ => rfl, fun _ _ _ => rfl,
    fun _ _ _ => rfl⟩
  rw [step_eq, fetch, hm]
  rfl

end Sys2Proof.Machine
end

section
/-! SUPPORT. The IPv4 and IPv6 headers under their rows (R230 to R235). -/

namespace Sys2Proof.Machine

/-- A readable IPv4 header with a legal length is handed on, its fields as the buffer holds them (R230 to
R233). -/
theorem decodeIpv4_ok {s : State} {o : Nat} {push : State → Ipv4Hdr → State}
    (hdepth : Config.tooDeep s.cfg (s.ctx.depth + 1) = false) (hr : s.readable o 20 = true)
    (hihl : 5 ≤ ipv4Ihl (s.u8 o)) (hlen : ipv4Ihl (s.u8 o) * 4 ≤ (s.u16 (o + 2)).toNat) :
    decodeIpv4 s o push = .next ((push (s.entered o)
      { version := ipv4Version (s.u8 o), headerLength := ipv4Ihl (s.u8 o) * 4
        dsfield := s.u8 (o + 1), totalLength := s.u16 (o + 2), identification := s.u16 (o + 4)
        flags := ipv4Flags (s.u16 (o + 6)), fragmentOffset := fragmentOffset (s.u16 (o + 6))
        ttl := s.u8 (o + 8), protocol := s.u8 (o + 9), checksum := s.u16 (o + 10)
        checksumStatus := .unchecked, src := s.bytes (o + 12) 4
        dst := s.bytes (o + 16) 4 }).dispatchProto (s.u8 (o + 9)) (o + ipv4Ihl (s.u8 o) * 4)
          (((s.u16 (o + 2)).toNat : Int) - ((ipv4Ihl (s.u8 o) * 4 : Nat) : Int))) := by
  have hin : ∀ a n, a + n ≤ o + 20 → (s.entered o).readable a n = true := fun a n h =>
    readable_sub s hr h
  have hihl' : ¬ ipv4Ihl ((s.entered o).u8 o) < 5 := Nat.not_lt.2 hihl
  have hlen' : ¬ ((s.entered o).u16 (o + 2)).toNat < ipv4Ihl ((s.entered o).u8 o) * 4 :=
    Nat.not_lt.2 hlen
  simp only [decodeIpv4]
  rw [enter_ok s o _ hdepth, rd8_ok _ _ _ (hin _ 1 (by omega)), if_neg hihl',
    rd8_ok _ _ _ (hin _ 1 (by omega)), rd16_ok _ _ _ (hin _ 2 (by omega)),
    rd16_ok _ _ _ (hin _ 2 (by omega)), rd16_ok _ _ _ (hin _ 2 (by omega)),
    rd8_ok _ _ _ (hin _ 1 (by omega)), rd8_ok _ _ _ (hin _ 1 (by omega)),
    rd16_ok _ _ _ (hin _ 2 (by omega)), rdBytes_ok _ _ _ _ (hin _ 4 (by omega)),
    rdBytes_ok _ _ _ _ (hin _ 4 (by omega)), if_neg hlen']
  rfl

/-- A readable IPv6 header is handed on, its fields as the buffer holds them (R234, R235). -/
theorem decodeIpv6_ok {s : State} {o : Nat} {push : State → Ipv6Hdr → State}
    (hdepth : Config.tooDeep s.cfg (s.ctx.depth + 1) = false) (hr : s.readable o 40 = true) :
    decodeIpv6 s o push = .next ((push (s.entered o)
      { version := ipv6Version (s.u32 o), trafficClass := ipv6TrafficClass (s.u32 o)
        flowLabel := ipv6FlowLabel (s.u32 o), payloadLength := s.u16 (o + 4)
        nextHeader := s.u8 (o + 6), hopLimit := s.u8 (o + 7), src := s.bytes (o + 8) 16
        dst := s.bytes (o + 24) 16 }).dispatchProto (s.u8 (o + 6)) (o + 40)
          (ipv6Remaining s.cfg.ipv6RemainingBasis s.req.blen o)) := by
  have hin : ∀ a n, a + n ≤ o + 40 → (s.entered o).readable a n = true := fun a n h =>
    readable_sub s hr h
  rw [decodeIpv6, enter_ok s o _ hdepth, rd32_ok _ _ _ (hin _ 4 (by omega)),
    rd16_ok _ _ _ (hin _ 2 (by omega)), rd8_ok _ _ _ (hin _ 1 (by omega)),
    rd8_ok _ _ _ (hin _ 1 (by omega)), rdBytes_ok _ _ _ _ (hin _ 16 (by omega)),
    rdBytes_ok _ _ _ _ (hin _ 16 (by omega))]
  rfl

/-- The state after a header that carries a protocol number, written out. -/
theorem dispatchProto_entered (s : State) (o : Nat) (w : Work) (p : Byte) (n : Nat) (rem : Int) :
    ((s.entered o).setWork w).dispatchProto p n rem =
      { s with
        mode := .row
        ctx := { s.ctx with off := o, depth := s.ctx.depth + 1, rem := rem, sel := .ipproto p }
        work := { w with next := n } } := by
  simp only [State.dispatchProto, State.jump, State.entered, State.setCtx, State.setWork,
    State.setMode]

/-- Settles O18: the four rows differ in where the header starts and in whose payload it is. -/
theorem ipv4Result : Obligations.Ipv4Result := by
  unfold Obligations.Ipv4Result
  intro s o hdepth hr ihl tl ff h after hihl hlen
  refine ⟨fun ho => ?_, fun ho => ?_⟩
  · subst ho
    have hdecode := decodeIpv4_ok (s := s.setLink .raw) (push := State.pushNetIpv4) hdepth hr hihl hlen
    exact hdecode.trans (congrArg _ (dispatchProto_entered (s.setLink .raw) _ _ _ _ _))
  · subst ho
    have hdecode := fun push => decodeIpv4_ok (push := push) hdepth hr hihl hlen
    exact ⟨(hdecode _).trans (congrArg _ (dispatchProto_entered s _ _ _ _ _)),
      (hdecode _).trans (congrArg _ (dispatchProto_entered s _ _ _ _ _)),
      (hdecode _).trans (congrArg _ (dispatchProto_entered s _ _ _ _ _))⟩

/-- The remaining length under an IPv6 header, as the two bases say (R235). -/
theorem ipv6Remaining_eq (basis : Ipv6Basis) (blen o : Nat) :
    ipv6Remaining basis blen o =
      if basis = .absolute then (blen : Int) - 40 else (blen : Int) - (o : Int) - 40 := by
  cases basis <;> rfl

/-- Settles O19: the five rows differ in whose payload the header is; the header lies inside the buffer,
so the remaining length is not negative. -/
theorem ipv6Result : Obligations.Ipv6Result := by
  unfold Obligations.Ipv6Result
  intro s hdepth o hr w h rem after outer
  have hfits : o + 40 ≤ s.req.blen := by simpa [State.readable] using hr
  have hrem : ipv6Remaining s.cfg.ipv6RemainingBasis s.req.blen o = rem := ipv6Remaining_eq _ _ _
  have hdecode : ∀ push w, push (s.entered o) h = (s.entered o).setWork w →
      decodeIpv6 s o push = .next (after w) := fun push w hpush => by
    rw [decodeIpv6_ok hdepth hr, hrem]
    exact congrArg _ ((congrArg (State.dispatchProto · _ _ _) hpush).trans
      (dispatchProto_entered s _ _ _ _ _))
  refine ⟨?_, hdecode _ _ rfl, hdecode _ _ rfl, hdecode _ _ rfl, hdecode _ _ rfl, hdecode _ _ rfl⟩
  simp only [rem]
  split <;> omega

end Sys2Proof.Machine
end

section
/-! SUPPORT. The orders of endpoints and flow keys (R403, R46), as orders of numbers: an endpoint ranks as
its address bytes and then its port, a key as its two endpoints. -/

namespace Sys2Proof.Machine

/-! ## The ranks -/

/-- The bytes as numbers. -/
def bytesRank (l : Bytes) : List Nat := l.map BitVec.toNat

/-- An endpoint by address, then by port. -/
def Endpoint.rank (e : Endpoint) : List Nat ×ₗ Nat := toLex (bytesRank e.addr, e.port.toNat)

/-- A key by its smaller endpoint, then by its larger one. -/
def FlowKey.rank (k : FlowKey) : (List Nat ×ₗ Nat) ×ₗ (List Nat ×ₗ Nat) :=
  toLex (k.lo.rank, k.hi.rank)

theorem bytesRank_injective : Function.Injective bytesRank :=
  List.map_injective_iff.2 fun _ _ => BitVec.eq_of_toNat_eq

theorem Endpoint.rank_injective : Function.Injective Endpoint.rank := by
  intro a b h
  obtain ⟨haddr, hport⟩ := Prod.mk.inj (toLex_inj.1 h)
  cases a; cases b
  simpa using ⟨bytesRank_injective haddr, BitVec.eq_of_toNat_eq hport⟩

theorem FlowKey.rank_injective : Function.Injective FlowKey.rank := by
  intro a b h
  obtain ⟨hlo, hhi⟩ := Prod.mk.inj (toLex_inj.1 h)
  cases a; cases b
  simpa using ⟨Endpoint.rank_injective hlo, Endpoint.rank_injective hhi⟩

/-- The order of byte strings is the order of lists of numbers. -/
theorem bytesLt_iff (l m : Bytes) : bytesLt l m = true ↔ bytesRank l < bytesRank m := by
  induction l generalizing m with
  | nil => cases m <;> simp [bytesLt, bytesRank]
  | cons x l ih =>
    cases m with
    | nil => simp [bytesLt, bytesRank]
    | cons y m =>
      simp only [bytesRank, List.map_cons, List.cons_lt_cons_iff] at ih ⊢
      by_cases hxy : x = y
      · simp [bytesLt, hxy, ih]
      · have hne : x.toNat ≠ y.toNat := fun h => hxy (BitVec.eq_of_toNat_eq h)
        simp [bytesLt, hxy, hne]

theorem Endpoint.lt_iff (a b : Endpoint) : Endpoint.lt a b = true ↔ a.rank < b.rank := by
  simp only [Endpoint.rank, Prod.Lex.toLex_lt_toLex, Endpoint.lt]
  by_cases haddr : a.addr = b.addr
  · simp [haddr]
  · have hne : bytesRank a.addr ≠ bytesRank b.addr := fun h => haddr (bytesRank_injective h)
    simp [haddr, hne, bytesLt_iff]

theorem FlowKey.lt_iff (a b : FlowKey) : FlowKey.lt a b = true ↔ a.rank < b.rank := by
  simp only [FlowKey.rank, Prod.Lex.toLex_lt_toLex, FlowKey.lt]
  by_cases hlo : a.lo = b.lo
  · simp [hlo, Endpoint.lt_iff]
  · have hne : a.lo.rank ≠ b.lo.rank := fun h => hlo (Endpoint.rank_injective h)
    simp [hlo, hne, Endpoint.lt_iff]

theorem Endpoint.lt_eq_false_iff (a b : Endpoint) : Endpoint.lt a b = false ↔ b.rank ≤ a.rank := by
  rw [Bool.eq_false_iff, ne_eq, Endpoint.lt_iff, not_lt]

/-! ## The flow key -/

/-- The key holds the two endpoints in order. -/
theorem flowKey_cases (a b : Endpoint) :
    (b.rank < a.rank ∧ flowKey a b = { lo := b, hi := a }) ∨
      (a.rank ≤ b.rank ∧ flowKey a b = { lo := a, hi := b }) := by
  unfold flowKey
  split
  · next h => exact .inl ⟨(Endpoint.lt_iff b a).1 h, rfl⟩
  · next h => exact .inr ⟨(Endpoint.lt_eq_false_iff b a).1 (Bool.eq_false_iff.2 h), rfl⟩

/-- The key is unordered (R403): the ranks of two endpoints are equal for equal endpoints only. -/
theorem flowKey_comm (a b : Endpoint) : flowKey a b = flowKey b a := by
  rcases flowKey_cases a b with ⟨hab, h⟩ | ⟨hab, h⟩ <;>
    rcases flowKey_cases b a with ⟨hba, h'⟩ | ⟨hba, h'⟩
  · exact absurd hab (lt_asymm hba)
  · rw [h, h']
  · rw [h, h']
  · rw [Endpoint.rank_injective (le_antisymm hab hba)]

/-- The key determines the pair (R403). -/
theorem flowKey_inj {a b c d : Endpoint} (h : flowKey a b = flowKey c d) :
    (a = c ∧ b = d) ∨ (a = d ∧ b = c) := by
  rcases flowKey_cases a b with ⟨_, hab⟩ | ⟨_, hab⟩ <;>
    rcases flowKey_cases c d with ⟨_, hcd⟩ | ⟨_, hcd⟩ <;>
    obtain ⟨hlo, hhi⟩ := FlowKey.mk.inj (hab.symm.trans (h.trans hcd))
  · exact .inl ⟨hhi, hlo⟩
  · exact .inr ⟨hhi, hlo⟩
  · exact .inr ⟨hlo, hhi⟩
  · exact .inl ⟨hlo, hhi⟩

/-- Settles O44: both orders are orders of ranks, and the rest follows from the linear order of ranks. -/
theorem flowKeyUnordered : Obligations.FlowKeyUnordered := by
  unfold Obligations.FlowKeyUnordered
  refine ⟨flowKey_comm, fun a b => ?_, fun a => ?_, fun _ _ _ _ => flowKey_inj, fun a b => ?_,
    fun x y l m => ?_, fun _ _ => ⟨rfl, rfl⟩, rfl, by decide⟩
  · rw [Endpoint.lt_eq_false_iff]
    rcases flowKey_cases a b with ⟨hab, h⟩ | ⟨hab, h⟩
    · rw [h]; exact hab.le
    · rw [h]; exact hab
  · rcases flowKey_cases a a with ⟨haa, _⟩ | ⟨_, h⟩
    · exact absurd haa (lt_irrefl _)
    · rw [h]; exact ⟨rfl, rfl⟩
  · rw [Endpoint.lt_iff, bytesLt_iff, Endpoint.rank, Endpoint.rank, Prod.Lex.toLex_lt_toLex]
    exact or_congr_right (and_congr_left' bytesRank_injective.eq_iff)
  · simp only [bytesLt_iff, bytesRank, List.map_cons, List.cons_lt_cons_iff, BitVec.toNat_inj]

end Sys2Proof.Machine
end

section
/-! SUPPORT. The registry of the tracker stays a map of well-kept flows within its capacity (R46, R50,
R415, R426, R428). -/

namespace Sys2Proof.Machine

/-! ## Maps with rising keys

`lt` orders the keys as their ranks are ordered. -/

section
variable {κ ν ι : Type} [DecidableEq κ] [LinearOrder ι] {lt : κ → κ → Bool} {rank : κ → ι}

/-- The keys of a map, in its order. -/
def mapKeys (l : List (κ × ν)) : List κ := l.map Prod.fst

omit [DecidableEq κ] in
/-- The keys rise from each to the next exactly when every key ranks below all later ones. -/
theorem mapSorted_iff (hlt : ∀ a b, lt a b = true ↔ rank a < rank b) (l : List (κ × ν)) :
    mapSorted lt l = true ↔ (mapKeys l).Pairwise (fun a b => rank a < rank b) := by
  rw [← List.pairwise_map (f := rank) (R := (· < ·)), ← List.isChain_iff_pairwise]
  induction l with
  | nil => simp [mapSorted, mapKeys]
  | cons e rest ih =>
    cases rest with
    | nil => simp [mapSorted, mapKeys]
    | cons e' rest =>
      simp only [mapKeys, List.map_cons] at ih ⊢
      simp only [mapSorted, Bool.and_eq_true, hlt, List.isChain_cons_cons, ih]

theorem mem_mapInsert {l : List (κ × ν)} {k : κ} {v : ν} {e : κ × ν}
    (h : e ∈ mapInsert lt l k v) : e = (k, v) ∨ e ∈ l := by
  induction l with
  | nil => simpa [mapInsert] using h
  | cons e' rest ih =>
    simp only [mapInsert] at h
    split at h
    · exact (List.mem_cons.1 h).imp_right (List.mem_cons_of_mem _)
    · split at h
      · exact List.mem_cons.1 h
      · rcases List.mem_cons.1 h with rfl | h
        · exact .inr List.mem_cons_self
        · exact (ih h).imp_right (List.mem_cons_of_mem _)

theorem mem_mapKeys_mapInsert {l : List (κ × ν)} {k x : κ} {v : ν}
    (h : x ∈ mapKeys (mapInsert lt l k v)) : x = k ∨ x ∈ mapKeys l := by
  obtain ⟨e, he, rfl⟩ := List.mem_map.1 h
  rcases mem_mapInsert he with rfl | he
  · exact .inl rfl
  · exact .inr (List.mem_map_of_mem he)

theorem mapFind_isSome_iff (l : List (κ × ν)) (k : κ) :
    (mapFind l k).isSome = true ↔ k ∈ mapKeys l := by
  induction l with
  | nil => simp [mapFind, mapKeys]
  | cons e rest ih =>
    obtain ⟨x, w⟩ := e
    by_cases hx : x = k
    · simp [mapFind, mapKeys, hx]
    · simpa [mapFind, mapKeys, hx, Ne.symm hx] using ih

/-- A value found at a key stands in the map. -/
theorem mem_of_mapFind {l : List (κ × ν)} {k : κ} {v : ν} (h : mapFind l k = some v) :
    (k, v) ∈ l := by
  induction l with
  | nil => cases h
  | cons e rest ih =>
    obtain ⟨x, w⟩ := e
    simp only [mapFind] at h
    split at h
    · next hx => cases h; exact hx ▸ List.mem_cons_self
    · exact List.mem_cons_of_mem _ (ih h)

/-- Putting a value at a key keeps the keys rising. -/
theorem mapSorted_mapInsert (hlt : ∀ a b, lt a b = true ↔ rank a < rank b)
    (hinj : Function.Injective rank) {l : List (κ × ν)} (h : mapSorted lt l = true) (k : κ) (v : ν) :
    mapSorted lt (mapInsert lt l k v) = true := by
  rw [mapSorted_iff hlt] at h ⊢
  induction l with
  | nil => simp [mapInsert, mapKeys]
  | cons e rest ih =>
    obtain ⟨x, w⟩ := e
    obtain ⟨hx, hrest⟩ := List.pairwise_cons.1 h
    simp only [mapInsert]
    split
    · next hxk => subst hxk; exact h
    · next hxk =>
      split
      · next hkx =>
        rw [hlt] at hkx
        refine List.pairwise_cons.2 ⟨fun y hy => ?_, h⟩
        rcases List.mem_cons.1 hy with rfl | hy
        · exact hkx
        · exact hkx.trans (hx y hy)
      · next hkx =>
        rw [hlt, not_lt] at hkx
        refine List.pairwise_cons.2 ⟨fun y hy => ?_, ih hrest⟩
        rcases mem_mapKeys_mapInsert hy with rfl | hy
        · exact lt_of_le_of_ne hkx fun hr => hxk (hinj hr)
        · exact hx y hy

theorem mapErase_sublist (l : List (κ × ν)) (k : κ) : (mapErase l k).Sublist l := by
  induction l with
  | nil => exact .slnil
  | cons e rest ih =>
    obtain ⟨x, w⟩ := e
    simp only [mapErase]
    split
    · exact List.sublist_cons_self _ _
    · exact ih.cons_cons _

/-- Removing a key keeps the keys rising. -/
theorem mapSorted_mapErase (hlt : ∀ a b, lt a b = true ↔ rank a < rank b) {l : List (κ × ν)}
    (h : mapSorted lt l = true) (k : κ) : mapSorted lt (mapErase l k) = true := by
  rw [mapSorted_iff hlt] at h ⊢
  exact h.sublist ((mapErase_sublist l k).map _)

/-- Putting a value at a key that is there changes no key. -/
theorem mapKeys_mapInsert_of_mem (hlt : ∀ a b, lt a b = true ↔ rank a < rank b) {l : List (κ × ν)}
    (h : mapSorted lt l = true) {k : κ} (hk : k ∈ mapKeys l) (v : ν) :
    mapKeys (mapInsert lt l k v) = mapKeys l := by
  rw [mapSorted_iff hlt] at h
  induction l with
  | nil => cases hk
  | cons e rest ih =>
    obtain ⟨x, w⟩ := e
    obtain ⟨hx, hrest⟩ := List.pairwise_cons.1 h
    simp only [mapInsert]
    split
    · next hxk => subst hxk; rfl
    · next hxk =>
      have hmem : k ∈ mapKeys rest := (List.mem_cons.1 hk).resolve_left fun e => hxk e.symm
      rw [if_neg fun hkx => lt_asymm ((hlt k x).1 hkx) (hx k hmem)]
      exact congrArg (x :: ·) (ih hrest hmem)

/-- Putting a value at a key that is not there adds one entry. -/
theorem length_mapInsert_of_none {l : List (κ × ν)} {k : κ} (h : mapFind l k = none) (v : ν) :
    (mapInsert lt l k v).length = l.length + 1 := by
  induction l with
  | nil => rfl
  | cons e rest ih =>
    obtain ⟨x, w⟩ := e
    simp only [mapFind] at h
    split at h
    · cases h
    · next hxk =>
      simp only [mapInsert, if_neg hxk]
      split
      · rfl
      · simp only [List.length_cons, ih h]

/-- The keys after an insertion depend on the keys before it only. -/
theorem mapKeys_mapInsert_congr {μ : Type} {l : List (κ × ν)} {m : List (κ × μ)}
    (h : mapKeys l = mapKeys m) (k : κ) (v : ν) (w : μ) :
    mapKeys (mapInsert lt l k v) = mapKeys (mapInsert lt m k w) := by
  induction l generalizing m with
  | nil => cases m with
    | nil => rfl
    | cons e m => cases h
  | cons e l ih =>
    cases m with
    | nil => cases h
    | cons e' m =>
      obtain ⟨x, u⟩ := e
      obtain ⟨y, u'⟩ := e'
      obtain ⟨hxy, hrest⟩ := List.cons.inj h
      simp only at hxy
      subst hxy
      simp only [mapInsert]
      split
      · exact congrArg (k :: ·) hrest
      · split
        · exact congrArg (k :: x :: ·) hrest
        · exact congrArg (x :: ·) (ih hrest)

end

/-! ## The maps of a direction -/

theorem natBlt_iff (a b : Nat) : Nat.blt a b = true ↔ id a < id b := iff_of_eq Nat.blt_eq

theorem mapsOk_iff (c : DirectionalCounters) :
    c.mapsOk = true ↔ mapSorted Nat.blt c.packets = true ∧ mapSorted Nat.blt c.acks = true ∧
      mapSorted Nat.blt c.retrans = true ∧ mapKeys c.packets = mapKeys c.retrans := by
  simp only [DirectionalCounters.mapsOk, Bool.and_eq_true, beq_iff_eq, and_assoc, mapKeys]

/-- A segment is counted at a boundary in both maps, or its repeat in the counts alone (R415). -/
theorem dataStep_mapsOk {width : Nat} {k : FlowKey} {d : Direction} {c : DirectionalCounters}
    {s : Segment} (h : c.mapsOk = true) : (dataStep width k d c s).1.mapsOk = true := by
  obtain ⟨hpackets, hacks, hretrans, hkeys⟩ := (mapsOk_iff c).1 h
  have hinsert := fun v => mapSorted_mapInsert natBlt_iff Function.injective_id hretrans
    (boundary width s) v
  unfold dataStep
  split
  · exact h
  simp only
  split
  · next t hfind =>
    have hmem : boundary width s ∈ mapKeys c.retrans := by
      rw [← hkeys, ← mapFind_isSome_iff, hfind]
      rfl
    exact (mapsOk_iff _).2 ⟨hpackets, hacks, hinsert _,
      hkeys.trans (mapKeys_mapInsert_of_mem natBlt_iff hretrans hmem _).symm⟩
  · exact (mapsOk_iff _).2 ⟨mapSorted_mapInsert natBlt_iff Function.injective_id hpackets _ _, hacks,
      hinsert _, mapKeys_mapInsert_congr hkeys _ _ _⟩

/-- An acknowledgement is timed in its own map (R416). -/
theorem ackStep_mapsOk {other c : DirectionalCounters} {s : Segment} (h : c.mapsOk = true) :
    (ackStep other c s).mapsOk = true := by
  obtain ⟨hpackets, hacks, hretrans, hkeys⟩ := (mapsOk_iff c).1 h
  unfold ackStep
  split
  · exact (mapsOk_iff _).2
      ⟨hpackets, mapSorted_mapInsert natBlt_iff Function.injective_id hacks _ _, hretrans, hkeys⟩
  · exact h

/-! ## The rules of a flow -/

/-- What every rule of a flow keeps: the key, the endpoints unless it sets them to the segment's (R407,
R408), and the form of the maps. -/
structure KeepsFlow (fl : TcpFlow) (s : Segment) (fl' : TcpFlow) : Prop where
  key : fl'.key = fl.key
  endpoints : (fl'.src = fl.src ∧ fl'.dst = fl.dst) ∨ (fl'.src = some s.src ∧ fl'.dst = some s.dst)
  send : fl.send.mapsOk = true → fl'.send.mapsOk = true
  recv : fl.recv.mapsOk = true → fl'.recv.mapsOk = true

section
variable (width : Nat) (c : Classes) (fl : TcpFlow) (s : Segment)

theorem KeepsFlow.same : KeepsFlow fl s fl := ⟨rfl, .inl ⟨rfl, rfl⟩, id, id⟩

/-- `CLOSED` sets the endpoints to the segment's, by the opening SYN or by the missed handshake. -/
theorem closedStep_keeps :
    KeepsFlow fl s (closedStep c fl s).flow ∧ (closedStep c fl s).flow.src = some s.src ∧
      (closedStep c fl s).flow.dst = some s.dst := by
  unfold closedStep
  split
  · exact ⟨⟨rfl, .inr ⟨rfl, rfl⟩, id, id⟩, rfl, rfl⟩
  · exact ⟨⟨rfl, .inr ⟨rfl, rfl⟩, id, id⟩, rfl, rfl⟩

theorem attributedStep_keeps (d : Direction) :
    KeepsFlow fl s (attributedStep width c d fl s).flow := by
  have hmaps : ∀ c' : DirectionalCounters, c'.mapsOk = true →
      (ackStep (fl.counters d.other) (dataStep width fl.key d (record c' s) s).1 s).mapsOk = true :=
    fun c' h => ackStep_mapsOk (dataStep_mapsOk h)
  simp only [attributedStep]
  cases d with
  | send => split <;> exact ⟨rfl, .inl ⟨rfl, rfl⟩, hmaps fl.send, id⟩
  | recv => split <;> exact ⟨rfl, .inl ⟨rfl, rfl⟩, id, hmaps fl.recv⟩

theorem estabStep_keeps : KeepsFlow fl s (estabStep width c fl s).flow := by
  unfold estabStep
  split
  · exact attributedStep_keeps width c fl s .send
  · split
    · exact attributedStep_keeps width c fl s .recv
    · exact .same fl s

theorem flowStep_keeps : KeepsFlow fl s (flowStep width c fl s).flow := by
  unfold flowStep
  split
  · exact .same fl s
  cases fl.state with
  | closed => exact (closedStep_keeps c fl s).1
  | synSent => simp only [synSentStep]; split <;> exact ⟨rfl, .inl ⟨rfl, rfl⟩, id, id⟩
  | synRecv => simp only [synRecvStep]; split <;> exact ⟨rfl, .inl ⟨rfl, rfl⟩, id, id⟩
  | estab => exact estabStep_keeps width c fl s
  | finWait => simp only [finWaitStep]; split <;> exact ⟨rfl, .inl ⟨rfl, rfl⟩, id, id⟩
  | closeWait => simp only [closeWaitStep]; split <;> exact ⟨rfl, .inl ⟨rfl, rfl⟩, id, id⟩
  | closing => simp only [closingStep]; split <;> exact ⟨rfl, .inl ⟨rfl, rfl⟩, id, id⟩
  | lastAck => simp only [lastAckStep]; split <;> exact ⟨rfl, .inl ⟨rfl, rfl⟩, id, id⟩

end

/-! ## The entry that a call stores -/

theorem entryOk_iff (k : FlowKey) (fl : TcpFlow) :
    entryOk (k, fl) = true ↔ fl.key = k ∧ fl.fresh = false ∧ fl.endpointsOk = true ∧
      fl.send.mapsOk = true ∧ fl.recv.mapsOk = true := by
  simp only [entryOk, Bool.and_eq_true, beq_iff_eq, Bool.not_eq_true', and_assoc]

/-- Two known endpoints are fine when they give the key (R407, R408). -/
theorem endpointsOk_of_some {fl : TcpFlow} {a b : Endpoint} (hsrc : fl.src = some a)
    (hdst : fl.dst = some b) (hkey : flowKey a b = fl.key) : fl.endpointsOk = true := by
  simp [TcpFlow.endpointsOk, hsrc, hdst, hkey]

theorem endpointsOk_congr {fl fl' : TcpFlow} (hsrc : fl'.src = fl.src) (hdst : fl'.dst = fl.dst)
    (hkey : fl'.key = fl.key) : fl'.endpointsOk = fl.endpointsOk := by
  simp only [TcpFlow.endpointsOk, hsrc, hdst, hkey]

/-- A stored flow that a segment of its key steps on is stored well again (R400, R428). -/
theorem entryOk_flowStep {k : FlowKey} {fl : TcpFlow} {s : Segment} (h : entryOk (k, fl) = true)
    (hk : flowKey s.src s.dst = k) (width : Nat) (c : Classes) :
    entryOk (k, { (flowStep width c fl s).flow with fresh := false }) = true := by
  obtain ⟨hkey, _, hends, hsend, hrecv⟩ := (entryOk_iff k fl).1 h
  have hkeeps := flowStep_keeps width c fl s
  refine (entryOk_iff k _).2 ⟨hkeeps.key.trans hkey, rfl, ?_, hkeeps.send hsend, hkeeps.recv hrecv⟩
  rcases hkeeps.endpoints with ⟨hsrc, hdst⟩ | ⟨hsrc, hdst⟩
  · exact (endpointsOk_congr hsrc hdst hkeeps.key).trans hends
  · exact endpointsOk_of_some hsrc hdst (hk.trans (hkey.symm.trans hkeeps.key.symm))

/-- A new flow is stepped on by the rule of `CLOSED`, since it is fresh (R405, R407). -/
theorem flowStep_newFlow (width : Nat) (c : Classes) (k : FlowKey) (s : Segment) :
    flowStep width c (newFlow k) s = closedStep c (newFlow k) s := by
  simp [flowStep, newFlow]

/-- A new flow is stored well, and never ends at once. -/
theorem entryOk_newFlow {k : FlowKey} {s : Segment} (hk : flowKey s.src s.dst = k) (width : Nat)
    (c : Classes) :
    entryOk (k, { (flowStep width c (newFlow k) s).flow with fresh := false }) = true := by
  rw [flowStep_newFlow]
  obtain ⟨hkeeps, hsrc, hdst⟩ := closedStep_keeps c (newFlow k) s
  exact (entryOk_iff k _).2 ⟨hkeeps.key, rfl,
    endpointsOk_of_some hsrc hdst (hk.trans hkeeps.key.symm), hkeeps.send rfl, hkeeps.recv rfl⟩

/-! ## The registry -/

theorem capacityOk_iff (cfg : Config) (registry : List (FlowKey × TcpFlow)) :
    capacityOk cfg registry = true ↔ ∀ n, cfg.flowCapacity = some n → registry.length ≤ n := by
  unfold capacityOk
  cases cfg.flowCapacity <;> simp

theorem registryOk_iff (s : State) :
    s.registryOk = true ↔ mapSorted FlowKey.lt s.registry = true ∧
      (∀ e ∈ s.registry, entryOk e = true) ∧
      ∀ n, s.cfg.flowCapacity = some n → s.registry.length ≤ n := by
  simp only [State.registryOk, Bool.and_eq_true, List.all_eq_true, capacityOk_iff, and_assoc]

/-- The observation in progress: its key is the segment's, and its flow is the one of the registry or a
new one with room for it (R400, R404, R426). -/
theorem observationOk_cases {s : State} {o : Observation} (h : s.observationOk = true)
    (ho : s.obs = some o) :
    flowKey o.seg.src o.seg.dst = o.key ∧
      (mapFind s.registry o.key = some o.flow ∨
        mapFind s.registry o.key = none ∧ o.flow = newFlow o.key ∧
          ∀ n, s.cfg.flowCapacity = some n → s.registry.length < n) := by
  simp only [State.observationOk, ho, Bool.and_eq_true, beq_iff_eq] at h
  obtain ⟨⟨hkey, _⟩, hflow⟩ := h
  refine ⟨hkey.symm, ?_⟩
  cases hfind : mapFind s.registry o.key with
  | some fl =>
    simp only [hfind, Bool.and_eq_true, beq_iff_eq] at hflow
    exact .inl (by rw [hflow.1])
  | none =>
    simp only [hfind, Bool.and_eq_true, beq_iff_eq] at hflow
    exact .inr ⟨rfl, hflow.1.1, hasRoom_iff.1 hflow.1.2⟩

/-- The flow that an `observe` call stores is well kept. -/
theorem entryOk_commit {s : State} {o : Observation} (hobs : s.observationOk = true)
    (ho : s.obs = some o) (hreg : s.registryOk = true) (width : Nat) (c : Classes) :
    entryOk (o.key, { (flowStep width c o.flow o.seg).flow with fresh := false }) = true := by
  obtain ⟨hkey, hflow⟩ := observationOk_cases hobs ho
  obtain ⟨_, hentries, _⟩ := (registryOk_iff s).1 hreg
  rcases hflow with hfind | ⟨_, hnew, _⟩
  · exact entryOk_flowStep (hentries _ (mem_of_mapFind hfind)) hkey width c
  · rw [hnew]
    exact entryOk_newFlow hkey width c

/-- Storing the flow stays within the capacity: its key is there, or there is room (R426). -/
theorem length_mapInsert_commit {s : State} {o : Observation} (hobs : s.observationOk = true)
    (ho : s.obs = some o) (hreg : s.registryOk = true) (fl : TcpFlow) {n : Nat}
    (hn : s.cfg.flowCapacity = some n) :
    (mapInsert FlowKey.lt s.registry o.key fl).length ≤ n := by
  obtain ⟨_, hflow⟩ := observationOk_cases hobs ho
  obtain ⟨hsorted, _, hcap⟩ := (registryOk_iff s).1 hreg
  rcases hflow with hfind | ⟨hfind, _, hroom⟩
  · have hmem : o.key ∈ mapKeys s.registry := by
      rw [← mapFind_isSome_iff, hfind]
      rfl
    have hlen := congrArg List.length (mapKeys_mapInsert_of_mem FlowKey.lt_iff hsorted hmem fl)
    simp only [mapKeys, List.length_map] at hlen
    rw [hlen]
    exact hcap n hn
  · rw [length_mapInsert_of_none hfind]
    exact hroom n hn

/-- The end of an `observe` call keeps the registry (R400, R423, R428). -/
theorem registryOk_commit {s : State} {o : Observation} (hobs : s.observationOk = true)
    (ho : s.obs = some o) (hreg : s.registryOk = true) (c : Classes) :
    (s.commit o (flowStep s.cfg.seqWidth c o.flow o.seg)).registryOk = true := by
  obtain ⟨hsorted, hentries, hcap⟩ := (registryOk_iff s).1 hreg
  rw [registryOk_iff, State.commit_registry]
  split
  · have hsub := mapErase_sublist s.registry o.key
    exact ⟨mapSorted_mapErase FlowKey.lt_iff hsorted _, fun e he => hentries e (hsub.subset he),
      fun n hn => hsub.length_le.trans (hcap n hn)⟩
  · refine ⟨mapSorted_mapInsert FlowKey.lt_iff FlowKey.rank_injective hsorted _ _, fun e he => ?_,
      fun n hn => length_mapInsert_commit hobs ho hreg _ hn⟩
    rcases mem_mapInsert he with rfl | he
    · exact entryOk_commit hobs ho hreg _ c
    · exact hentries e he

end Sys2Proof.Machine
end

section
/-! SUPPORT. Every step keeps a good state good. A request keeps its mode and its registers inside their
bounds row by row; the tracker's side is the registry of the section before. -/

namespace Sys2Proof.Machine

/-! ## The parts of a good state -/

theorem State.safe_iff (s : State) :
    s.safe = true ↔ s.memoryCanonical = true ∧ s.modeOk = true ∧ s.contextOk = true ∧
      s.registryOk = true ∧ s.observationOk = true := by
  simp only [State.safe, Bool.and_eq_true, and_assoc]

/-- The registers during a request (R34, R360, R367, R474). -/
structure Ctx.Inside (cfg : Config) (req : Request) (c : Ctx) : Prop where
  running : c.status = .running
  noError : c.err = none
  depth : Config.tooDeep cfg c.depth = false
  hops : c.hops ≤ cfg.dnsMaxPtrHops
  window : c.dnsend ≤ req.blen

theorem contextOk_of_parsing {s : State} (hp : s.parsing = true) :
    s.contextOk = true ↔ s.req.blen ≤ s.req.buf.len ∧ s.ctx.Inside s.cfg s.req := by
  simp only [State.contextOk, hp, Bool.not_true, Bool.false_or, Bool.and_eq_true, decide_eq_true_eq,
    beq_iff_eq, Bool.not_eq_true', and_assoc]
  refine and_congr_right fun _ => ⟨fun ⟨herr, hrunning, hdepth, hhops, hwindow⟩ => ?_, fun h => ?_⟩
  · rw [hrunning] at herr
    exact ⟨hrunning, Option.not_isSome_iff_eq_none.1 (by simp [← herr]), hdepth, hhops, hwindow⟩
  · exact ⟨by simp [h.running, h.noError], h.running, h.depth, h.hops, h.window⟩

theorem contextOk_of_not_parsing {s : State} (hp : s.parsing = false) :
    s.contextOk = true ↔
      s.req.blen ≤ s.req.buf.len ∧ (s.ctx.status = .fatal ↔ s.ctx.err.isSome = true) := by
  simp only [State.contextOk, hp, Bool.not_false, Bool.true_or, Bool.and_true, Bool.and_eq_true,
    decide_eq_true_eq, Bool.beq_eq_decide_eq]
  refine and_congr_right fun _ => ?_
  cases s.ctx.err.isSome <;> simp

/-- No flow is under observation during a request, nor in an idle block. -/
theorem obs_none_of_modeOk {s : State} (hok : s.modeOk = true) (hm : s.mode ≠ .observe) :
    s.obs = none := by
  rw [← Option.isNone_iff_eq_none]
  unfold State.modeOk at hok
  split at hok <;> simp_all

theorem observationOk_of_none {s : State} (h : s.obs = none) : s.observationOk = true := by
  simp [State.observationOk, h]

/-- What lies outside a request is good as before, when the request has kept it. -/
theorem safe_of_keepsOutside {s t : State} (hs : s.safe = true) (hk : KeepsOutside s t)
    (hobs : s.obs = none) (hmode : t.modeOk = true) (hctx : t.contextOk = true) : t.safe = true := by
  obtain ⟨hmem, _, _, hreg, _⟩ := (State.safe_iff s).1 hs
  refine (State.safe_iff t).2 ⟨?_, hmode, hctx, ?_, observationOk_of_none (hk.obs.trans hobs)⟩
  · rw [memoryCanonical_congr hk.calls hk.req, hmem]
  · rw [registryOk_iff] at hreg ⊢
    rwa [hk.registry, hk.cfg]

/-! ## The rows -/

/-- A row that goes on keeps the registers inside their bounds. -/
theorem RowGoes.inside {s t : State} {i : Instr} (h : RowGoes s i t)
    (hs : s.ctx.Inside s.cfg s.req) : t.ctx.Inside s.cfg s.req := by
  obtain ⟨running, noError, depth, hops, window⟩ := hs
  cases h <;> constructor <;> simp [*]

/-- A row that goes on leads to a mode that fits, when a row that is reached under an IP header has one
under it (R39, R40): it lies under that header itself, or puts one there, or leads to no such row. -/
theorem RowGoes.modeOk {s t : State} {i : Instr} (h : RowGoes s i t) (hobs : s.obs = none)
    (hnet : tableUnderNet i.table = true → s.work.net.isSome = true) : t.modeOk = true := by
  cases h with
  | @link i hi h sel n hdepth hsized hsel =>
    have htable : ∀ b ∈ [Table.ethertype, .nullfam, .llcsap],
      b ≠ .tcpclass ∧ tableUnderNet b = false := by decide
    simp [State.modeOk, hobs, htable _ hsel]
  | llc | arp => simp [State.modeOk, hobs, Selector.table, tableUnderNet]
  | rawIpv4 | netIpv4 | netIpv6 => simp [State.modeOk, hobs, Selector.table]
  | arpClass | unknown => simp [State.modeOk, hobs]
  | nested hi =>
    have hn := hnet ((by decide : ∀ i ∈ nestedRows, tableUnderNet i.table = true) _ hi)
    simp [State.modeOk, hobs, hn, Selector.table]
  | leaf hi =>
    have hn := hnet ((by decide : ∀ i ∈ leafRows, tableUnderNet i.table = true) _ hi)
    simp [State.modeOk, hobs, hn]
  | igmpVersion hi | record hi =>
    have hn := hnet (by rw [hi]; rfl)
    simp [State.modeOk, hobs, hn]
  | option hi =>
    have hn := hnet (by rcases hi with hi | ⟨hi, _⟩ <;> rw [hi] <;> rfl)
    simp [State.modeOk, hobs, hn]
  | dns hi =>
    have hn := hnet (by rcases hi with rfl | rfl <;> rfl)
    simp [State.modeOk, hobs, hn]
  | mismatch hi =>
    have hn := hnet
      ((by decide : ∀ i ∈ [Instr.rrAIn, .rrAaaaIn], tableUnderNet i.table = true) _ hi)
    simp [State.modeOk, hobs, hn]
  | igmp | udp | sack | tcp | udpPlain | nameEnd | label | pointer | nsName =>
    have hn := hnet rfl
    simp [State.modeOk, hobs, hn, Selector.table]

/-- A selector selects a row of its own table (R133). -/
theorem decode_table {cfg : Config} {sel : Selector} {i : Instr} (h : decode cfg sel = .ok i) :
    i.table = sel.table := by
  cases sel with
  | tcpclass row flags =>
    simp only [decode, decodeClass] at h
    split at h
    · cases row <;> cases h <;> rfl
    · cases h
  | _ =>
    cases h
    simp only [decodeLinkCode, decodeEthertype, decodeNullFamily, decodeSap, decodeProtocol,
      decodeOptionKind, decodeSackLength, decodeLabelByte, decodeRecordType, decodeArpOperation,
      decodeIgmpType, decodePorts, apply_ite Instr.table]
    simp only [Instr.table, encode, Selector.table, ite_self]

/-! ## A step of a request -/

/-- What a good state says during a request. -/
structure InRequest (s : State) : Prop where
  parsing : s.parsing = true
  obs : s.obs = none
  mode : s.modeOk = true
  capture : s.req.blen ≤ s.req.buf.len
  ctx : s.ctx.Inside s.cfg s.req

theorem inRequest_of_safe {s : State} (hs : s.safe = true) (hp : s.parsing = true) : InRequest s := by
  obtain ⟨_, hmode, hctx, _, _⟩ := (State.safe_iff s).1 hs
  obtain ⟨hcapture, hinside⟩ := (contextOk_of_parsing hp).1 hctx
  refine ⟨hp, obs_none_of_modeOk hmode fun hm => ?_, hmode, hcapture, hinside⟩
  simp [State.parsing, hm] at hp

/-- A mode of the loops has an IP header under it (R39, R40). -/
theorem InRequest.net {s : State} (h : InRequest s)
    (hm : s.mode = .options ∨ s.mode = .name ∨ s.mode = .afterName ∨ s.mode = .sections) :
    s.work.net.isSome = true := by
  have hok := h.mode
  rcases hm with hm | hm | hm | hm <;> simp only [State.modeOk, hm, Bool.and_eq_true] at hok <;>
    exact hok.1

/-- A row runs in a state whose mode fits. -/
theorem RunsRowIn.inRequest {s u : State} (hu : RunsRowIn s u) (h : InRequest s) :
    InRequest u ∧ u.mode = .row := by
  obtain ⟨running, noError, depth, hops, window⟩ := h.ctx
  cases hu with
  | row hm => exact ⟨h, hm⟩
  | option hm | label hm =>
    have hn := h.net (by simp [hm])
    exact ⟨⟨rfl, h.obs, by simp [State.modeOk, h.obs, hn, Selector.table], h.capture,
      ⟨running, noError, depth, hops, window⟩⟩, rfl⟩

/-- The row of a state under an IP header has one under it. -/
theorem InRequest.net_of_row {s : State} (h : InRequest s) (hm : s.mode = .row)
    (hunder : tableUnderNet s.ctx.sel.table = true) : s.work.net.isSome = true := by
  have hok := h.mode
  simp only [State.modeOk, hm, hunder, Bool.and_eq_true, Bool.not_true, Bool.false_or] at hok
  exact hok.1.2

/-- A raised state is idle and holds `ERR` (R34, R464). -/
theorem raised_ok {s : State} (h : InRequest s) (c : Ctx) (code : FatalCode) (a : Nat) :
    ((s.setCtx c).raised code a).modeOk = true ∧ ((s.setCtx c).raised code a).contextOk = true :=
  ⟨by simp [State.modeOk, h.obs],
    (contextOk_of_not_parsing rfl).2 ⟨h.capture, by simp⟩⟩

/-- After a response the block is idle, and `ERR` is as clear as during the request (R34, R36). -/
theorem respond_ok {s : State} (h : InRequest s) (np : NetPayload) :
    (s.respond np).modeOk = true ∧ (s.respond np).contextOk = true :=
  ⟨by simp [State.modeOk, h.obs],
    (contextOk_of_not_parsing rfl).2 ⟨h.capture, by simp [h.ctx.noError]⟩⟩

theorem DnsStep.ok {s t : State} (ht : DnsStep s t) (h : InRequest s) :
    t.modeOk = true ∧ t.ctx.Inside s.cfg s.req := by
  obtain ⟨running, noError, depth, hops, window⟩ := h.ctx
  have hobs := h.obs
  cases ht with
  | question hm | fields hm | nsData hm | sectionEnd hm | record hm | opened hm | ceiling hm
  | message hm =>
    have hn := h.net (by simp [hm])
    exact ⟨by simp [State.modeOk, hobs, hn, hm, Selector.table], by constructor <;> simp [*]⟩

/-- A row keeps a request good. -/
theorem RowStep.ok {s t : State} {i : Instr} (ht : RowStep s i t) (h : InRequest s)
    (hm : s.mode = .row) (hi : i.table = s.ctx.sel.table) :
    t.modeOk = true ∧ t.contextOk = true := by
  have hkeeps := ht.keepsOutside
  rcases ht with hfails | hgoes
  · obtain ⟨c, code, a, _, rfl⟩ := hfails.eq_raised
    exact raised_ok h c code a
  · have hinside := hgoes.inside h.ctx
    rw [← hkeeps.cfg, ← hkeeps.req] at hinside
    refine ⟨hgoes.modeOk h.obs fun hunder => h.net_of_row hm (hi ▸ hunder), ?_⟩
    exact (contextOk_of_parsing hgoes.stillRunning.parsing).2 ⟨hkeeps.req ▸ h.capture, hinside⟩

/-- Every step of a request leaves a mode and a context that are good. -/
theorem ParseStep.ok {s t : State} (ht : ParseStep s t) (h : InRequest s) :
    t.modeOk = true ∧ t.contextOk = true := by
  cases ht with
  | row hu hi ht =>
    obtain ⟨hreq, hm⟩ := hu.inRequest h
    exact ht.ok hreq hm (decode_table hi)
  | fails code a => exact raised_ok h s.ctx code a
  | tcpDone hm =>
    have hn := h.net (by simp [hm])
    exact ⟨by simp [State.modeOk, h.obs, hn],
      (contextOk_of_parsing rfl).2 ⟨h.capture, h.ctx⟩⟩
  | dns ht =>
    have hkeeps := ht.keepsOutside
    obtain ⟨hmode, hinside⟩ := ht.ok h
    rw [← hkeeps.cfg, ← hkeeps.req] at hinside
    exact ⟨hmode,
      (contextOk_of_parsing ht.stillRunning.parsing).2 ⟨hkeeps.req ▸ h.capture, hinside⟩⟩
  | @answers np => exact respond_ok h np

theorem safe_parseStep {s t : State} (hs : s.safe = true) (hp : s.parsing = true)
    (ht : ParseStep s t) : t.safe = true := by
  have h := inRequest_of_safe hs hp
  obtain ⟨hmode, hctx⟩ := ht.ok h
  exact safe_of_keepsOutside hs ht.keepsOutside h.obs hmode hctx

/-! ## The other steps -/

/-- Between calls no record is under way, and no flow under observation. -/
theorem idle_of_safe {s : State} (hs : s.safe = true) (hm : s.mode = .idle) :
    s.work = Work.empty ∧ s.obs = none := by
  have hok := State.safe_modeOk hs
  simpa [State.modeOk, hm] using hok

/-- An `observe` call leaves no record under way either. -/
theorem work_empty_of_observe {s : State} (hs : s.safe = true) (hm : s.mode = .observe) :
    s.work = Work.empty := by
  have hok := State.safe_modeOk hs
  simp only [State.modeOk, hm, Bool.and_eq_true, beq_iff_eq] at hok
  exact hok.1

/-- An observation begins on the flow of its segment's key (R400, R404, R426). -/
theorem safe_beginObserve {s : State} {f : DecodedFrame} (hs : s.safe = true) (hm : s.mode = .idle) :
    (beginObserve s f).safe = true := by
  obtain ⟨hwork, hobs⟩ := idle_of_safe hs hm
  obtain ⟨hmem, _, hctx, hreg, _⟩ := (State.safe_iff s).1 hs
  have hnot : s.parsing = false := by simp [State.parsing, hm]
  rw [contextOk_of_not_parsing hnot] at hctx
  have hdone : ∀ out, (s.observed1 out).safe = true := fun out =>
    (State.safe_iff _).2 ⟨hmem, by simp [State.modeOk, hwork],
      (contextOk_of_not_parsing rfl).2 hctx, hreg, observationOk_of_none rfl⟩
  have hbegun : ∀ o, ({ s with mode := .observe, obs := some o } : State).observationOk = true →
      ({ s with mode := .observe, obs := some o } : State).safe = true := fun o ho =>
    (State.safe_iff _).2 ⟨hmem, by simp [State.modeOk, hwork],
      (contextOk_of_not_parsing rfl).2 hctx, hreg, ho⟩
  cases hseg : segmentOf s.cfg f with
  | none => rw [beginObserve_untracked hseg]; exact hdone _
  | some seg =>
    cases hfind : mapFind s.registry (flowKey seg.src seg.dst) with
    | some fl =>
      rw [beginObserve_known hseg hfind]
      exact hbegun _ (by simp [State.observationOk, hfind])
    | none =>
      cases hroom : hasRoom s.cfg s.registry with
      | true =>
        rw [beginObserve_new hseg hfind hroom]
        exact hbegun _ (by simp [State.observationOk, hfind, hroom])
      | false => rw [beginObserve_full hseg hfind hroom]; exact hdone _

/-- The registers at the start of a request lie inside every bound (R53). -/
theorem reset_inside (cfg : Config) (req : Request) (lt : BitVec 3) :
    (Ctx.reset lt).Inside cfg req where
  running := rfl
  noError := rfl
  depth := by
    unfold Config.tooDeep
    split
    · rfl
    · exact decide_eq_false (Nat.not_lt_zero _)
  hops := Nat.zero_le _
  window := Nat.zero_le _

/-- A call starts a good request, fails at once, or starts a good observation. -/
theorem safe_takesCall {s t : State} (hs : s.safe = true) (hm : s.mode = .idle)
    (ht : TakesCall s t) : t.safe = true := by
  obtain ⟨hmem', _⟩ := ht.memoryCanonical ((State.safe_iff s).1 hs).1
  obtain ⟨hwork, hobs⟩ := idle_of_safe hs hm
  obtain ⟨hmem, hmode, hctx, hreg, hobservation⟩ := (State.safe_iff s).1 hs
  cases ht with
  | nothing => exact hs
  | @decode lt header buf rest hcalls hlen =>
    exact (State.safe_iff _).2
      ⟨hmem', by simp [State.modeOk, hobs, Ctx.reset, Selector.table, tableUnderNet],
        (contextOk_of_parsing rfl).2 ⟨hlen, reset_inside _ _ lt⟩, hreg, observationOk_of_none hobs⟩
  | short hcalls hlen =>
    exact (State.safe_iff _).2 ⟨hmem', by simp [State.modeOk, hobs],
      (contextOk_of_not_parsing rfl).2 ⟨Nat.zero_le _, by simp⟩, hreg, observationOk_of_none hobs⟩
  | @observe f rest hcalls =>
    refine safe_beginObserve (s := { s with calls := rest }) ?_ hm
    have hnot : s.parsing = false := by simp [State.parsing, hm]
    rw [contextOk_of_not_parsing hnot] at hctx
    simp only [State.memoryCanonical, hcalls, List.all_cons, Call.wf, Bool.true_and] at hmem
    exact (State.safe_iff _).2 ⟨hmem, hmode, (contextOk_of_not_parsing hnot).2 hctx, hreg,
      hobservation⟩

/-- The end of an `observe` call leaves an idle block and a good registry. -/
theorem safe_commits {s t : State} (hs : s.safe = true) (hm : s.mode = .observe)
    (ht : Commits s t) : t.safe = true := by
  obtain ⟨o, c, ho, rfl⟩ := ht
  obtain ⟨hmem, _, hctx, hreg, hobs⟩ := (State.safe_iff s).1 hs
  have hnot : s.parsing = false := by simp [State.parsing, hm]
  have hwork := work_empty_of_observe hs hm
  rw [contextOk_of_not_parsing hnot] at hctx
  exact (State.safe_iff _).2 ⟨hmem, by simp [State.modeOk, State.commit, hwork],
    (contextOk_of_not_parsing rfl).2 hctx, registryOk_commit hobs ho hreg c,
    observationOk_of_none rfl⟩

/-- Settles O55: a step takes a call, commits a flow, or goes on with a request, and each keeps a good
state good. -/
theorem safetyKept : Obligations.SafetyKept := by
  unfold Obligations.SafetyKept
  intro s t hs hstep
  by_cases hidle : s.mode = .idle
  · rw [step_idle hidle] at hstep
    exact safe_takesCall hs hidle (takeCall_leads s t hstep)
  by_cases hobserve : s.mode = .observe
  · exact safe_commits hs hobserve (step_observe hobserve t hstep)
  have hp := parsing_of_mode hidle hobserve
  exact safe_parseStep hs hp
    (step_leads s hp (State.selOk_of_modeOk (State.safe_modeOk hs)) t hstep)

end Sys2Proof.Machine
end

section
/-! SUPPORT. Every step keeps every record at the sizes that the spec gives (R38, R39, R41, R43, R45). -/

namespace Sys2Proof.Machine

/-! ## When a record is sized -/

theorem TcpRec.sized_iff (t : TcpRec) :
    t.sized = true ↔ 20 ≤ t.headerLength ∧ t.headerLength ≤ 60 ∧
      ∀ l, t.options.sack = some l → 1 ≤ l.length ∧ l.length ≤ 4 := by
  unfold TcpRec.sized
  cases t.options.sack <;> simp [and_assoc]

/-- A finished payload stays sized in the headers that await it (R177). -/
theorem wrapInner_sized {inner : List ProtoHdr} {p : ProtoPayload}
    (hinner : inner.all ProtoHdr.sized = true) (hp : p.sized = true) :
    (wrapInner inner p).sized = true := by
  induction inner generalizing p with
  | nil => exact hp
  | cons h rest ih =>
    simp only [List.all_cons, Bool.and_eq_true] at hinner
    obtain ⟨hh, hrest⟩ := hinner
    refine ih hrest ?_
    cases h <;> simpa [ProtoHdr.wrap, ProtoPayload.sized, hp, ProtoHdr.sized] using hh

theorem NetHdr.wrap_sized {h : NetHdr} {p : ProtoPayload} (hh : h.sized = true)
    (hp : p.sized = true) : (h.wrap p).sized = true := by
  cases h <;> simpa [NetHdr.wrap, NetPayload.sized, hp, NetHdr.sized] using hh

@[simp] theorem Section.sized_decoded {α : Type} (test : α → Bool) (items : List α) :
    (Section.decoded items).sized test = items.all test := rfl

@[simp] theorem Section.sized_malformed {α : Type} (test : α → Bool) (count : U16)
    (reason : MalformedReason) : (Section.malformed count reason).sized test = true := rfl

theorem DnsMsg.store_sized {m : DnsMsg} {qs : List Question} {rs : List RR} (hm : m.sized = true)
    (hqs : qs.all (fun q => nameSized q.name) = true) (hrs : rs.all RR.sized = true)
    (k : SectionKind) : (m.store qs rs k).sized = true := by
  simp only [DnsMsg.sized, Bool.and_eq_true] at hm ⊢
  cases k <;> simp [DnsMsg.store, hm, hqs, hrs]

theorem DnsMsg.malform_sized {m : DnsMsg} (hm : m.sized = true) (reason : MalformedReason)
    (k : SectionKind) : (m.malform reason k).sized = true := by
  simp only [DnsMsg.sized, Bool.and_eq_true] at hm ⊢
  cases k <;> simp [DnsMsg.malform, hm]

theorem DnsMsg.skip_sized {m : DnsMsg} (hm : m.sized = true) (ks : List SectionKind) :
    (m.skip ks).sized = true := by
  induction ks generalizing m with
  | nil => exact hm
  | cons k rest ih => exact ih (DnsMsg.malform_sized hm .skipped k)

/-! ## The partly built records -/

/-- The sizes of the partly built records. -/
structure Work.Sized (w : Work) : Prop where
  link : w.link.sized = true
  net : w.net.all NetHdr.sized = true
  inner : w.inner.all ProtoHdr.sized = true
  labels : nameSized w.dns.labels = true
  questions : w.dns.questions.all (fun q => nameSized q.name) = true
  records : w.dns.records.all RR.sized = true
  rr : w.dns.rr.sized = true
  msg : w.dns.msg.sized = true

theorem Work.sized_iff (w : Work) : w.sized = true ↔ w.Sized := by
  simp only [Work.sized, Bool.and_eq_true]
  constructor
  · rintro ⟨⟨⟨⟨⟨⟨⟨link, net⟩, inner⟩, labels⟩, questions⟩, records⟩, rr⟩, msg⟩
    exact ⟨link, net, inner, labels, questions, records, rr, msg⟩
  · rintro ⟨link, net, inner, labels, questions, records, rr, msg⟩
    exact ⟨⟨⟨⟨⟨⟨⟨link, net⟩, inner⟩, labels⟩, questions⟩, records⟩, rr⟩, msg⟩

/-- What a mode delivers, or looks up with a record under way, is sized. -/
def State.deliverySized (s : State) : Prop :=
  match s.mode with
  | .row => (s.ctx.sel.table = .arpop → s.work.arp.sized = true) ∧
      (s.ctx.sel.table = .igmptype → s.work.igmp.group.length = 4)
  | .deliverNet p => p.sized = true
  | .deliverProto p => p.sized = true
  | _ => True

/-- The records of a request under way are sized. -/
structure RequestSized (s : State) : Prop where
  work : s.work.Sized
  tcp : s.inOptions = true → s.work.tcp.sized = true
  delivery : s.deliverySized

theorem requestSized_iff (s : State) :
    RequestSized s ↔ s.work.Sized ∧ (s.inOptions = true → s.work.tcp.sized = true) ∧
      s.deliverySized :=
  ⟨fun ⟨hwork, htcp, hdelivery⟩ => ⟨hwork, htcp, hdelivery⟩,
    fun ⟨hwork, htcp, hdelivery⟩ => ⟨hwork, htcp, hdelivery⟩⟩

theorem recordsSized_iff (s : State) :
    s.recordsSized = true ↔ (∀ r ∈ s.responses, r.sized = true) ∧ RequestSized s := by
  rw [requestSized_iff, ← Work.sized_iff]
  unfold State.recordsSized State.deliverySized
  cases s.mode <;> simp [and_assoc, imp_iff_not_or]

theorem Work.empty_sized : Work.empty.Sized := by
  rw [← Work.sized_iff]
  decide

/-- An idle block and one that observes hold no record. -/
theorem requestSized_of_empty {s : State} (hw : s.work = Work.empty)
    (hm : s.mode = .idle ∨ s.mode = .observe) : RequestSized s where
  work := hw ▸ Work.empty_sized
  tcp h := by rcases hm with hm | hm <;> simp [State.inOptions, hm] at h
  delivery := by rcases hm with hm | hm <;> simp [State.deliverySized, hm]

/-- The section loops have the DNS records under way only. -/
theorem requestSized_of_sections {s : State} (hm : s.mode = .sections) (hw : s.work.Sized) :
    RequestSized s where
  work := hw
  tcp h := by simp [State.inOptions, hm] at h
  delivery := by simp [State.deliverySized, hm]

/-! ## The rows -/

/-- A label that a selector selects is not empty: the empty one ends the name (R357). -/
theorem label_pos_of_decode {cfg : Config} {sel : Selector} {n : BitVec 6}
    (h : decode cfg sel = .ok (.dnsLabel n)) : 1 ≤ n.toNat := by
  have htable := decode_table h
  cases sel with
  | dnslabel b =>
    simp only [decode, decodeLabelByte, Except.ok.injEq] at h
    split at h
    · cases h
    · next hb =>
      split at h
      · next htop =>
        cases h
        have hb' : b.toNat ≠ 0 := fun h0 => hb (BitVec.eq_of_toNat_eq h0)
        have htop' : b.toNat / 64 % 4 = 0 := by
          simpa [BitVec.extractLsb'_toNat, Nat.shiftRight_eq_div_pow] using congrArg BitVec.toNat htop
        have hlt := b.isLt
        simp only [BitVec.extractLsb'_toNat, Nat.shiftRight_zero]
        omega
      · split at h
        · cases h
        · split at h <;> cases h
  | _ => cases htable

@[simp] theorem nameSized_nil : nameSized [] = true := rfl

theorem nameSized_append {n : DnsName} {l : Label} (hn : nameSized n = true) (hpos : 1 ≤ l.length)
    (hmax : l.length ≤ 63) : nameSized (n ++ [l]) = true := by
  simp only [nameSized, List.all_append, Bool.and_eq_true] at hn ⊢
  exact ⟨hn, by simp [labelSized, hpos, hmax]⟩

/-- A row that goes on keeps the partly built records sized. -/
theorem RowGoes.workSized {s t : State} {i : Instr} (h : RowGoes s i t) (hs : s.work.Sized)
    (hlabel : ∀ n, i = .dnsLabel n → 1 ≤ n.toNat) : t.work.Sized := by
  obtain ⟨link, net, inner, labels, questions, records, rr, msg⟩ := hs
  cases h with
  | llc => constructor <;> simp [*, LinkHdr.sized]
  | rawIpv4 => constructor <;> simp [*, LinkHdr.sized, NetHdr.sized]
  | netIpv4 | netIpv6 => constructor <;> simp [*, NetHdr.sized]
  | dns => constructor <;> simp [*, DnsWork.empty, RR.sized, RR.blank, RData.sized]
  | @label n l hsized hin =>
    have hpos := hlabel n rfl
    have hmax := n.isLt
    have hname := nameSized_append labels (l := l) (by omega) (by omega)
    constructor <;> simp [*]
  | record | mismatch =>
    have hname : nameSized s.work.dns.rr.name = true := by
      simp only [RR.sized, Bool.and_eq_true] at rr
      exact rr.1
    constructor <;> simp_all [RR.sized, RData.sized]
  | link | nested | arp | arpClass | unknown | leaf | igmp | igmpVersion | tcp | option | sack | udp
  | udpPlain | nameEnd | pointer | nsName => constructor <;> simp [*]

/-- A row that goes on to the option loop, or to a row of it, keeps the TCP record sized. -/
theorem RowGoes.tcpSized {s t : State} {i : Instr} (h : RowGoes s i t)
    (htcp : i.table = .tcpopt ∨ i.table = .sacklen → s.work.tcp.sized = true) :
    t.inOptions = true → t.work.tcp.sized = true := by
  cases h with
  | @link i hi h sel n hdepth hsized hsel =>
    have htable : ∀ b ∈ [Table.ethertype, .nullfam, .llcsap], b ≠ .tcpopt ∧ b ≠ .sacklen := by decide
    simp [State.inOptions, htable _ hsel]
  | tcp hdepth hsized => simp [hsized]
  | sack => simp [htcp (.inl rfl)]
  | @option i hi opts c hsack hmoves =>
    obtain ⟨hmin, hmax, hold⟩ := (TcpRec.sized_iff _).1 (htcp (hi.imp_right And.left))
    exact fun _ => (TcpRec.sized_iff _).2 ⟨hmin, hmax, fun l hl => (hsack l hl).elim (hold l) id⟩
  | _ => simp [State.inOptions, Selector.table]

/-- A row that goes on delivers a sized payload, or looks a row up for a sized record. -/
theorem RowGoes.deliverySized {s t : State} {i : Instr} (h : RowGoes s i t)
    (harp : i.table = .arpop → s.work.arp.sized = true)
    (higmp : i.table = .igmptype → s.work.igmp.group.length = 4) : t.deliverySized := by
  cases h with
  | @link i hi h sel n hdepth hsized hsel =>
    have htable : ∀ b ∈ [Table.ethertype, .nullfam, .llcsap], b ≠ .arpop ∧ b ≠ .igmptype := by decide
    simp [State.deliverySized, htable _ hsel]
  | arp hdepth hsized => simpa [State.deliverySized, Selector.table] using hsized
  | arpClass hi => exact harp hi
  | leaf hi hdepth hsized => exact hsized
  | igmp hdepth hsized => simpa [State.deliverySized, Selector.table] using hsized
  | igmpVersion hi => simp [State.deliverySized, ProtoPayload.sized, higmp hi]
  | _ => simp [State.deliverySized, Selector.table, NetPayload.sized, ProtoPayload.sized]

/-- A row that goes on keeps the records sized. -/
theorem RowGoes.requestSized {s t : State} {i : Instr} (h : RowGoes s i t) (hs : RequestSized s)
    (hm : s.mode = .row) (hi : decode s.cfg s.ctx.sel = .ok i) : RequestSized t := by
  have htable := decode_table hi
  have hdelivery := hs.delivery
  simp only [State.deliverySized, hm] at hdelivery
  refine ⟨h.workSized hs.work fun n hn => label_pos_of_decode (hn ▸ hi),
    h.tcpSized fun hopt => hs.tcp ?_, h.deliverySized (fun harp => hdelivery.1 (htable ▸ harp))
      fun higmp => hdelivery.2 (htable ▸ higmp)⟩
  simpa [State.inOptions, hm, htable] using hopt

/-! ## The steps -/

/-- Looking a row of the option loop up keeps the TCP record under way (R294). -/
theorem RunsRowIn.requestSized {s u : State} (hu : RunsRowIn s u) (hs : RequestSized s) :
    RequestSized u := by
  cases hu with
  | row hm => exact hs
  | option hm hin kind =>
    exact ⟨hs.work, fun _ => hs.tcp (by simp [State.inOptions, hm]), nofun, nofun⟩
  | label hm b => exact ⟨hs.work, nofun, nofun, nofun⟩

/-- The work after a name and at the head of the section loops keeps the records sized. -/
theorem DnsStep.requestSized {s t : State} (ht : DnsStep s t) (hs : RequestSized s) :
    RequestSized t := by
  obtain ⟨link, net, inner, labels, questions, records, rr, msg⟩ := hs.work
  cases ht with
  | question hm hname =>
    exact ⟨by constructor <;> simp_all, nofun, trivial⟩
  | @fields hm huse r hname hdata =>
    have hr : r.sized = true := by
      rw [RR.sized, hname, hdata, labels]
      rfl
    exact ⟨by constructor <;> simp [*], nofun, nofun, nofun⟩
  | nsData hm =>
    have hname : nameSized s.work.dns.rr.name = true := by
      simp only [RR.sized, Bool.and_eq_true] at rr
      exact rr.1
    exact ⟨by constructor <;> simp_all [RR.sized, RData.sized], nofun, trivial⟩
  | @sectionEnd hm k hk =>
    have hstore := DnsMsg.store_sized msg questions records k
    exact requestSized_of_sections (by simp [hm]) (by constructor <;> simp [*])
  | record hm hk hleft huse => exact ⟨by constructor <;> simp [*], nofun, trivial⟩
  | opened hm hk hlater count =>
    exact requestSized_of_sections (by simp [hm]) (by constructor <;> simp [*])
  | @ceiling hm hk k later hlater d =>
    have hskip := DnsMsg.skip_sized (DnsMsg.malform_sized msg .ceiling k) later
    exact requestSized_of_sections (by simp [hm]) (by constructor <;> simp [*])
  | message hm =>
    exact ⟨by constructor <;> simp [*], nofun, by simp [State.deliverySized, ProtoPayload.sized, msg]⟩

/-- Every step of a request that goes on keeps the records sized; one that ends it leaves none. -/
theorem ParseStep.requestSized {s t : State} (ht : ParseStep s t) (h : InRequest s)
    (hs : RequestSized s) : RequestSized t := by
  cases ht with
  | @row u t i hu hi ht =>
    rcases ht with hfails | hgoes
    · obtain ⟨c, code, a, _, rfl⟩ := hfails.eq_raised
      exact requestSized_of_empty rfl (.inl rfl)
    · have hcfg := hu.keepsOutside.cfg
      exact hgoes.requestSized (hu.requestSized hs) (hu.inRequest h).2 (hcfg ▸ hi)
  | fails code a => exact requestSized_of_empty rfl (.inl rfl)
  | @tcpDone hm r hlen hopts =>
    have htcp := (TcpRec.sized_iff _).1 (hs.tcp (by simp [State.inOptions, hm]))
    rw [← hlen, ← hopts, ← TcpRec.sized_iff] at htcp
    exact ⟨hs.work, nofun, htcp⟩
  | dns ht => exact ht.requestSized hs
  | answers => exact requestSized_of_empty rfl (.inl rfl)

/-- A delivered payload is sized, in the headers that await it (R175). -/
theorem Delivers.sized {s : State} {np : NetPayload} (h : Delivers s np) (hs : RequestSized s) :
    np.sized = true := by
  have hdelivery := hs.delivery
  cases h with
  | net hm => simpa [State.deliverySized, hm] using hdelivery
  | proto hm hn =>
    have hnet := hs.work.net
    simp only [State.deliverySized, hm] at hdelivery
    rw [hn, Option.all_some] at hnet
    exact NetHdr.wrap_sized hnet (wrapInner_sized hs.work.inner hdelivery)

/-- One more sized response. -/
theorem responsesSized_append {l : List Response} {r : Response} (hl : ∀ r' ∈ l, r'.sized = true)
    (hr : r.sized = true) : ∀ r' ∈ l ++ [r], r'.sized = true := by
  intro r' hr'
  rcases List.mem_append.1 hr' with hr' | hr'
  · exact hl r' hr'
  · exact List.mem_singleton.1 hr' ▸ hr

/-- Every response of a step of a request is sized: a frame is, and a fatal error carries none. -/
theorem ParseStep.responsesSized {s t : State} (ht : ParseStep s t) (hs : RequestSized s)
    (hall : ∀ r ∈ s.responses, r.sized = true) : ∀ r ∈ t.responses, r.sized = true := by
  cases ht with
  | row hu hi ht =>
    rcases ht with hfails | hgoes
    · obtain ⟨c, code, a, _, rfl⟩ := hu.eq_raised hfails
      exact responsesSized_append hall rfl
    · rwa [(hu.stillRunning hgoes).responses]
  | fails => exact responsesSized_append hall rfl
  | tcpDone => exact hall
  | dns ht => rwa [ht.stillRunning.responses]
  | answers hnp =>
    exact responsesSized_append hall
      (by simp [Response.sized, State.frame, hs.work.link, hnp.sized hs])

/-- Taking a call leaves no record under way, and answers no frame. -/
theorem TakesCall.recordsSized {s t : State} (ht : TakesCall s t) (hsafe : s.safe = true)
    (hm : s.mode = .idle) (hs : s.recordsSized = true) : t.recordsSized = true := by
  have hwork := (idle_of_safe hsafe hm).1
  have hall := ((recordsSized_iff s).1 hs).1
  rw [recordsSized_iff]
  cases ht with
  | nothing => exact (recordsSized_iff s).1 hs
  | decode => exact ⟨hall, Work.empty_sized, nofun, nofun, nofun⟩
  | short => exact ⟨responsesSized_append hall rfl, requestSized_of_empty rfl (.inl rfl)⟩
  | @observe f rest hcalls =>
    rcases beginObserve_cases { s with calls := rest } f with ⟨out, h⟩ | ⟨o, h⟩
    · rw [h]; exact ⟨hall, requestSized_of_empty hwork (.inl rfl)⟩
    · rw [h]; exact ⟨hall, requestSized_of_empty hwork (.inr rfl)⟩

/-- Settles O56: a request keeps its records sized, row by row, and answers with a sized frame; every
other step leaves no record under way. -/
theorem recordsKept : Obligations.RecordsKept := by
  unfold Obligations.RecordsKept
  intro s t hsafe hs hstep
  obtain ⟨hall, hreq⟩ := (recordsSized_iff s).1 hs
  by_cases hidle : s.mode = .idle
  · rw [step_idle hidle] at hstep
    exact (takeCall_leads s t hstep).recordsSized hsafe hidle hs
  by_cases hobserve : s.mode = .observe
  · obtain ⟨o, c, _, rfl⟩ := step_observe hobserve t hstep
    have hwork := work_empty_of_observe hsafe hobserve
    exact (recordsSized_iff _).2 ⟨hall, requestSized_of_empty hwork (.inl rfl)⟩
  have hp := parsing_of_mode hidle hobserve
  have hparse := step_leads s hp (State.selOk_of_modeOk (State.safe_modeOk hsafe)) t hstep
  exact (recordsSized_iff t).2
    ⟨hparse.responsesSized hreq hall, hparse.requestSized (inRequest_of_safe hsafe hp) hreq⟩

end Sys2Proof.Machine
end

section
/-! SUPPORT. Every request ends (R36, R84, R294, R360). Each step of a request lowers a rank of five
numbers, compared from the first on: the phase of the request, and then what is left to do in it. -/

namespace Sys2Proof.Machine

/-! ## The rank of a state -/

/-- Five numbers, compared from the first on. -/
abbrev Rank : Type := Nat ×ₗ Nat ×ₗ Nat ×ₗ Nat ×ₗ Nat

def Rank.of (phase a b c d : Nat) : Rank := toLex (phase, toLex (a, toLex (b, toLex (c, d))))

theorem Rank.of_lt_iff {phase a b c d phase' a' b' c' d' : Nat} :
    Rank.of phase a b c d < Rank.of phase' a' b' c' d' ↔
      phase < phase' ∨ phase = phase' ∧ (a < a' ∨ a = a' ∧ (b < b' ∨ b = b' ∧
        (c < c' ∨ c = c' ∧ d < d'))) := by
  simp only [Rank.of, Prod.Lex.toLex_lt_toLex]

/-- What is left of a DNS message: the sections pending and the one under way, then `records`. -/
def State.dnsRank (s : State) (records hops bytes : Nat) : Rank :=
  .of 4 (2 * s.work.dns.pending.length + if s.work.dns.current.isSome then 1 else 0) records hops bytes

/-- What is left of the records of a section, six places for each: the head of the section loop stands
before the first place of a record. -/
def recordRank (left place : Nat) : Nat := 6 * max left 1 - place

/-- The place of a name in a record: the owner's or a question's, or the one in NS data (R353, R354,
R363). The place after a name follows it. -/
def NameUse.place : NameUse → Nat
  | .question => 1
  | .owner => 1
  | .nsData => 4

/-- What is left of a name: the pointers that may follow, then the bytes up to the end of the window. -/
def State.nameRank (s : State) : Rank :=
  s.dnsRank (recordRank s.work.dns.left s.work.dns.nameUse.place)
    (s.cfg.dnsMaxPtrHops - s.ctx.hops) (s.ctx.dnsend - s.work.dns.cur)

/-- What is left when a row of a table is selected. A nested header ranks by the bytes after it, an option
by the bytes of the option area. -/
def State.rowRank (s : State) : Table → Rank
  | .link => .of 10 0 0 0 0
  | .nullfam => .of 9 0 0 0 0
  | .llcsap => .of 9 0 0 0 0
  | .ethertype => .of 8 0 0 0 0
  | .ipproto => .of 7 (s.req.blen - s.work.next) 0 0 0
  | .udpport => .of 6 0 0 0 0
  | .igmptype => .of 6 0 0 0 0
  | .tcpopt => .of 5 (s.ctx.optend - s.work.cur) (if s.work.cur < s.ctx.optend then 1 else 2) 0 0
  | .sacklen => .of 5 (s.ctx.optend - s.work.cur) 0 0 0
  | .dnslabel => s.nameRank
  | .dnsrr => s.dnsRank (recordRank s.work.dns.left 3) 0 0
  | .arpop => .of 2 0 0 0 0
  | .tcpclass => .of 1 0 0 0 0

/-- What is left of the request of a state. -/
def State.rank (s : State) : Rank :=
  match s.mode with
  | .idle => .of 0 0 0 0 0
  | .observe => .of 0 0 0 0 0
  | .row => s.rowRank s.ctx.sel.table
  | .options => .of 5 (s.ctx.optend - s.work.cur) 1 0 0
  | .name => s.nameRank
  | .afterName =>
    s.dnsRank (recordRank s.work.dns.left (s.work.dns.nameUse.place + 1)) 0 0
  | .sections => s.dnsRank (6 * s.work.dns.left) 0 0
  | .deliverNet _ => .of 1 0 0 0 0
  | .deliverProto _ => .of 1 0 0 0 0

theorem NameUse.place_le (u : NameUse) : u.place ≤ 4 := by cases u <;> decide

/-- A later place ranks lower. -/
theorem recordRank_lt {left place place' : Nat} (h : place < place') (h' : place' ≤ 5) :
    recordRank left place' < recordRank left place := by
  unfold recordRank
  omega

/-- A finished record leaves six places fewer, or none (R353, R354). -/
theorem nextRecord_lt (left : Nat) {place : Nat} (h : place ≤ 5) :
    6 * (left - 1) < recordRank left place := by
  unfold recordRank
  omega

theorem rank_row {s : State} (hm : s.mode = .row) : s.rank = s.rowRank s.ctx.sel.table := by
  simp [State.rank, hm]

theorem rank_afterName {s : State} (hm : s.mode = .afterName) :
    s.rank = s.dnsRank (recordRank s.work.dns.left (s.work.dns.nameUse.place + 1)) 0 0 := by
  simp [State.rank, hm]

theorem rank_sections {s : State} (hm : s.mode = .sections) :
    s.rank = s.dnsRank (6 * s.work.dns.left) 0 0 := by
  simp [State.rank, hm]

/-! ## Every step lowers the rank -/

/-- An IP header under the link layer is selected by an ethertype or by a NULL family (R193, R205). -/
theorem table_of_netRow : ∀ i ∈ netIpv4Rows ++ netIpv6Rows,
    i.table = .ethertype ∨ i.table = .nullfam := by decide

/-- A later phase ranks lower, whatever is left in it. -/
theorem Rank.of_lt_of_phase {phase phase' a b c d a' b' c' d' : Nat} (h : phase < phase') :
    Rank.of phase a b c d < Rank.of phase' a' b' c' d' := Rank.of_lt_iff.2 (.inl h)

/-- Inside a section, fewer places left rank lower. -/
theorem dnsRank_lt {s t : State} (hpending : t.work.dns.pending = s.work.dns.pending)
    (hcurrent : t.work.dns.current = s.work.dns.current)
    {records records' hops bytes hops' bytes' : Nat} (h : records < records') :
    t.dnsRank records hops bytes < s.dnsRank records' hops' bytes' :=
  Rank.of_lt_iff.2 (.inr ⟨rfl, .inr ⟨by rw [hpending, hcurrent], .inl h⟩⟩)

/-- A row that goes on to another phase, or on inside its own, lowers the rank. -/
theorem RowGoes.rank_lt {s t : State} {i : Instr} (h : RowGoes s i t) :
    t.rank < s.rowRank i.table := by
  cases h with
  | @link i hi h sel n hdepth hsized hsel =>
    have htable := (by decide : ∀ i ∈ linkRows, i.table = .link) _ hi
    simp only [List.mem_cons, List.not_mem_nil, or_false] at hsel
    rw [htable, rank_row rfl]
    rcases hsel with hsel | hsel | hsel
    · simp [hsel, State.rowRank, Rank.of_lt_iff]
    · simp [hsel, State.rowRank, Rank.of_lt_iff]
    · simp [hsel, State.rowRank, Rank.of_lt_iff]
  | llc hi =>
    have htable := (by decide : ∀ i ∈ sapRows, i.table = .llcsap) _ hi
    rw [htable]
    exact Rank.of_lt_of_phase (by decide)
  | rawIpv4 => exact Rank.of_lt_of_phase (by decide)
  | netIpv4 hi =>
    rcases table_of_netRow _ (List.mem_append_left _ hi) with htable | htable <;> rw [htable] <;>
      exact Rank.of_lt_of_phase (by decide)
  | netIpv6 hi =>
    rcases table_of_netRow _ (List.mem_append_right _ hi) with htable | htable <;> rw [htable] <;>
      exact Rank.of_lt_of_phase (by decide)
  | @nested i hi h p n rem hdepth hsized hin hnext =>
    have htable := (by decide : ∀ i ∈ nestedRows, i.table = .ipproto) _ hi
    rw [htable]
    exact Rank.of_lt_iff.2 (.inr ⟨rfl, .inl (Nat.sub_lt_sub_left hin hnext)⟩)
  | leaf hi =>
    have htable := (by decide : ∀ i ∈ leafRows, i.table = .ipproto) _ hi
    rw [htable]
    exact Rank.of_lt_of_phase (by decide)
  | arpClass hi | igmpVersion hi =>
    rw [hi]
    exact Rank.of_lt_of_phase (by decide)
  | arp | unknown | igmp | tcp | udp | udpPlain =>
    exact Rank.of_lt_of_phase (by decide)
  | dns hi =>
    rcases hi with rfl | rfl <;> exact Rank.of_lt_of_phase (by decide)
  | @option i hi opts c hsack hmoves =>
    have hoptions : (s.optionDone opts c).rank = .of 5 (s.ctx.optend - c) 1 0 0 := rfl
    rw [hoptions]
    rcases hi with htable | ⟨htable, hin⟩
    · rw [htable, State.rowRank, Rank.of_lt_iff]
      split <;> omega
    · rw [htable, State.rowRank, Rank.of_lt_iff]
      omega
  | sack =>
    refine Rank.of_lt_iff.2 (.inr ⟨rfl, .inr ⟨rfl, .inl ?_⟩⟩)
    split <;> decide
  | nameEnd =>
    have hplace := s.work.dns.nameUse.place_le
    have hlt := recordRank_lt (left := s.work.dns.left)
      (Nat.lt_succ_self s.work.dns.nameUse.place) (by omega)
    exact dnsRank_lt (s := s) rfl rfl hlt
  | @label n l hsized hin =>
    refine Rank.of_lt_iff.2 (.inr ⟨rfl, .inr ⟨rfl, .inr ⟨rfl, .inr ⟨rfl, ?_⟩⟩⟩⟩)
    change s.ctx.dnsend - (s.work.dns.cur + 1 + n.toNat) < s.ctx.dnsend - s.work.dns.cur
    omega
  | pointer resume c hhops =>
    refine Rank.of_lt_iff.2 (.inr ⟨rfl, .inr ⟨rfl, .inr ⟨rfl, .inl ?_⟩⟩⟩)
    change s.cfg.dnsMaxPtrHops - (s.ctx.hops + 1) < s.cfg.dnsMaxPtrHops - s.ctx.hops
    omega
  | record hi =>
    rw [hi]
    exact dnsRank_lt (s := s) rfl rfl (nextRecord_lt _ (by decide))
  | mismatch hi =>
    have htable := (by decide : ∀ i ∈ [Instr.rrAIn, .rrAaaaIn], i.table = .dnsrr) _ hi
    rw [htable]
    exact dnsRank_lt (s := s) rfl rfl (nextRecord_lt _ (by decide))
  | nsName =>
    have hlt : recordRank s.work.dns.left 4 < recordRank s.work.dns.left 3 :=
      recordRank_lt (by decide) (by decide)
    exact dnsRank_lt (s := s) rfl rfl hlt

/-- Fewer sections left rank lower: opening a section takes it off the list, and closing it ends it. -/
theorem dnsRank_lt_of_sections {s t : State} {records hops bytes records' hops' bytes' : Nat}
    (h : 2 * t.work.dns.pending.length + (if t.work.dns.current.isSome then 1 else 0) <
      2 * s.work.dns.pending.length + if s.work.dns.current.isSome then 1 else 0) :
    t.dnsRank records hops bytes < s.dnsRank records' hops' bytes' :=
  Rank.of_lt_iff.2 (.inr ⟨rfl, .inl h⟩)

/-- The work after a name and at the head of the section loops lowers the rank. -/
theorem DnsStep.rank_lt {s t : State} (h : DnsStep s t) : t.rank < s.rank := by
  have hplace := s.work.dns.nameUse.place_le
  cases h with
  | question hm =>
    rw [rank_afterName hm]
    exact dnsRank_lt (s := s) rfl rfl (nextRecord_lt _ (by omega))
  | nsData hm =>
    rw [rank_afterName hm]
    exact dnsRank_lt (s := s) rfl rfl (nextRecord_lt _ (by omega))
  | fields hm huse =>
    rw [rank_afterName hm, huse]
    exact dnsRank_lt (s := s) rfl rfl (recordRank_lt (by decide) (by decide))
  | sectionEnd hm hk =>
    rw [rank_sections hm, rank_sections (by simp [hm])]
    exact dnsRank_lt_of_sections (by simp [hk])
  | @record hm k hk hleft u huse =>
    have hname : u.place = 1 := by cases u with
      | question => rfl
      | owner => rfl
      | nsData => exact absurd rfl huse
    rw [rank_sections hm]
    refine dnsRank_lt (s := s) rfl rfl ?_
    change recordRank s.work.dns.left u.place < 6 * s.work.dns.left
    rw [hname, recordRank]
    omega
  | opened hm hk hlater =>
    rw [rank_sections hm, rank_sections (by simp [hm])]
    exact dnsRank_lt_of_sections (by simp [hk, hlater]; omega)
  | ceiling hm hk hlater =>
    rw [rank_sections hm, rank_sections (by simp [hm])]
    exact dnsRank_lt_of_sections (by simp [hk, hlater])
  | message hm =>
    rw [rank_sections hm]
    exact Rank.of_lt_of_phase (by decide)

/-- Looking a row up does not change the rank: the option loop has a byte to look at. -/
theorem RunsRowIn.rank_eq {s u : State} (h : RunsRowIn s u) : u.rowRank u.ctx.sel.table = s.rank := by
  cases h with
  | row hm => exact (rank_row hm).symm
  | option hm hin => simp [State.rank, hm, State.rowRank, Selector.table, hin]
  | label hm =>
    rw [State.rank, hm]
    rfl

/-- Every step of a request that goes on lowers the rank. -/
theorem ParseStep.rank_lt {s t : State} (h : ParseStep s t) (hgoes : t.parsing = true) :
    t.rank < s.rank := by
  cases h with
  | @row u t i hu hi ht =>
    rcases ht with hfails | hgoes
    · obtain ⟨c, code, a, _, rfl⟩ := hfails.eq_raised
      cases hgoes
    · rw [← hu.rank_eq, ← decode_table hi]
      exact hgoes.rank_lt
  | fails => cases hgoes
  | tcpDone hm =>
    have hoptions : s.rank = .of 5 (s.ctx.optend - s.work.cur) 1 0 0 := by simp [State.rank, hm]
    rw [hoptions]
    exact Rank.of_lt_of_phase (by decide)
  | dns ht => exact ht.rank_lt
  | answers => cases hgoes

/-! ## The end of a request -/

/-- What `RequestEnds` says of a state: finitely many steps lead to an idle block with one more response,
and keep what lies outside the request. -/
def Ends (s : State) : Prop :=
  ∃ (n : Nat) (t : State) (r : Response), Host.Core.run Sys2Proof.core n s = .next t ∧ t.mode = .idle ∧
    t.responses = s.responses ++ [r] ∧ KeepsOutside s t

/-- A run begins with a step. -/
theorem run_succ {s t : State} (hstep : step s = .next t) (n : Nat) :
    Host.Core.run Sys2Proof.core (n + 1) s = Host.Core.run Sys2Proof.core n t := by
  have hcore : Sys2Proof.core.step s = .next t := hstep
  simp only [Host.Core.run, hcore]

/-- A step that ends the request. -/
theorem ends_of_answer {s t : State} {r : Response} (hstep : step s = .next t) (hm : t.mode = .idle)
    (hr : t.responses = s.responses ++ [r]) (hkeeps : KeepsOutside s t) : Ends s :=
  ⟨1, t, r, run_succ hstep 0, hm, hr, hkeeps⟩

/-- A step before the end. -/
theorem Ends.of_step {s t : State} (hstep : step s = .next t) (hr : t.responses = s.responses)
    (hkeeps : KeepsOutside s t) (h : Ends t) : Ends s := by
  obtain ⟨n, u, r, hrun, hm, hr', hkeeps'⟩ := h
  exact ⟨n + 1, u, r, (run_succ hstep n).trans hrun, hm, hr ▸ hr', hkeeps.trans hkeeps'⟩

/-- A good request ends: a step ends it, or lowers its rank. -/
theorem ends_of_safe {s : State} (hs : s.safe = true) (hp : s.parsing = true) : Ends s := by
  induction hrank : s.rank using WellFoundedLT.induction generalizing s with
  | _ rank ih =>
    obtain ⟨t, hstep⟩ := progress s hs
    have hparse := step_leads s hp (State.selOk_of_modeOk (State.safe_modeOk hs)) t hstep
    rcases hparse.ends_or_goesOn with ⟨c, code, a, hdiag, ht⟩ | ⟨np, ht⟩ | hgoes
    · exact ends_of_answer hstep (by simp [ht]) (by simp [ht]; rfl) hparse.keepsOutside
    · exact ends_of_answer hstep (by simp [ht]) (by simp [ht]; rfl) hparse.keepsOutside
    · exact (ih t.rank (hrank ▸ hparse.rank_lt hgoes.parsing) (safetyKept s t hs hstep)
        hgoes.parsing rfl).of_step hstep hgoes.responses hparse.keepsOutside

/-- Settles O60: the rank of a good request falls until a step ends it. -/
theorem requestEnds : Obligations.RequestEnds := by
  unfold Obligations.RequestEnds
  intro s hs hp
  obtain ⟨n, t, r, hrun, hm, hr, hkeeps⟩ := ends_of_safe hs hp
  exact ⟨n, t, r, hrun, hm, hr, hkeeps.calls, hkeeps.registry, hkeeps.observed, hkeeps.cfg⟩

end Sys2Proof.Machine
end

section
/-! SUPPORT. A step with other bytes at or past `B_len` in the host's buffer (R80). `Blind` says of two
outcomes, one for each buffer, that the second is the first with the other buffer in it. There is one rule
for each shared operation, and only the reads look at the buffer: their value lies below `B_len` (R84).
There is one lemma for each decoder, and the rows follow from them. -/

namespace Sys2Proof.Machine

/-! ## Reads below `B_len` -/

/-- The other bytes differ from the buffer's at or past `B_len` only. -/
def State.AgreesWith (s : State) (m : Memory) : Prop :=
  ∀ a, a < s.req.blen → m.read a = s.req.buf.cells.read a

section
variable {s : State} {m : Memory} (hm : s.AgreesWith m)
include hm

/-- A byte string below `B_len` is the same in both buffers. -/
theorem slice_withCells {a n : Nat} (hr : s.readable a n = true) :
    m.slice a n = s.req.buf.cells.slice a n := by
  refine Memory.slice_congr fun c _ hc => hm c ?_
  simp only [State.readable, decide_eq_true_eq] at hr
  omega

theorem u8_withCells {a : Nat} (hr : s.readable a 1 = true) : (s.withCells m).u8 a = s.u8 a :=
  congrArg (fun l => BitVec.ofNat 8 (bigEndian l)) (slice_withCells hm hr)

theorem u16_withCells {a : Nat} (hr : s.readable a 2 = true) : (s.withCells m).u16 a = s.u16 a :=
  congrArg (fun l => BitVec.ofNat 16 (bigEndian l)) (slice_withCells hm hr)

theorem bytes_withCells {a n : Nat} (hr : s.readable a n = true) :
    (s.withCells m).bytes a n = s.bytes a n := slice_withCells hm hr

theorem u32_withCells {a : Nat} (hr : s.readable a 4 = true) : (s.withCells m).u32 a = s.u32 a :=
  congrArg (fun l => BitVec.ofNat 32 (bigEndian l)) (slice_withCells hm hr)

end

/-- The DNS bound check contains the bound check of R84 (R367). -/
theorem readable_of_dnsReadable {s : State} {a n : Nat} (h : s.dnsReadable a n = true) :
    s.readable a n = true := by
  simp only [State.dnsReadable, Bool.and_eq_true] at h
  exact h.2

/-! ## The shared operations -/

/-- The second outcome is the first one with the bytes `m` in the buffer. -/
def Blind (m : Memory) (x y : Out) : Prop := y = mapNext (fun t => t.withCells m) x

section
variable {m : Memory} {s : State}

/-- Both buffers pass the same test, since no test reads a byte. -/
theorem ite_blind {p : Prop} [Decidable p] {x y x' y' : Out} (hx : p → Blind m x x')
    (hy : ¬p → Blind m y y') : Blind m (if p then x else y) (if p then x' else y') := by
  split
  · next h => exact hx h
  · next h => exact hy h

theorem raise_blind {code : FatalCode} {a : Nat} :
    Blind m (s.raise code a) ((s.withCells m).raise code a) := rfl

theorem enter_blind {a : Nat} {k k' : State → Out}
    (hk : Blind m (k (s.entered a)) (k' ((s.entered a).withCells m))) :
    Blind m (enter s a k) (enter (s.withCells m) a k') :=
  ite_blind (fun _ => raise_blind) fun _ => hk

theorem fits_blind {l : Nat} {x x' : Out} (hx : Blind m x x') :
    Blind m (fits s l x) (fits (s.withCells m) l x') :=
  ite_blind (fun _ => hx) fun _ => raise_blind

/-! The reads. They run in a state that has the buffer of the state before the step, so the hypothesis
about that buffer is theirs too. -/

theorem rd8_blind {a : Nat} {k k' : Byte → Out} (hk : ∀ v, Blind m (k v) (k' v))
    (hm : s.AgreesWith m := by assumption) : Blind m (rd8 s a k) (rd8 (s.withCells m) a k') :=
  ite_blind (fun hr => by rw [u8_withCells hm hr]; exact hk _) fun _ => raise_blind

theorem rd16_blind {a : Nat} {k k' : U16 → Out} (hk : ∀ v, Blind m (k v) (k' v))
    (hm : s.AgreesWith m := by assumption) : Blind m (rd16 s a k) (rd16 (s.withCells m) a k') :=
  ite_blind (fun hr => by rw [u16_withCells hm hr]; exact hk _) fun _ => raise_blind

theorem rd32_blind {a : Nat} {k k' : U32 → Out} (hk : ∀ v, Blind m (k v) (k' v))
    (hm : s.AgreesWith m := by assumption) : Blind m (rd32 s a k) (rd32 (s.withCells m) a k') :=
  ite_blind (fun hr => by rw [u32_withCells hm hr]; exact hk _) fun _ => raise_blind

/-- What follows the read may look at the same bytes again (R204). -/
theorem rdBytes_blind {a n : Nat} {k k' : Bytes → Out}
    (hk : s.readable a n = true → ∀ v, Blind m (k v) (k' v))
    (hm : s.AgreesWith m := by assumption) :
    Blind m (rdBytes s a n k) (rdBytes (s.withCells m) a n k') :=
  ite_blind (fun hr => by rw [bytes_withCells hm hr]; exact hk hr _) fun _ => raise_blind

theorem drd8_blind {a : Nat} {k k' : Byte → Out} (hk : ∀ v, Blind m (k v) (k' v))
    (hm : s.AgreesWith m := by assumption) : Blind m (drd8 s a k) (drd8 (s.withCells m) a k') :=
  ite_blind (fun hr => by rw [u8_withCells hm (readable_of_dnsReadable hr)]; exact hk _)
    fun _ => raise_blind

theorem drd16_blind {a : Nat} {k k' : U16 → Out} (hk : ∀ v, Blind m (k v) (k' v))
    (hm : s.AgreesWith m := by assumption) : Blind m (drd16 s a k) (drd16 (s.withCells m) a k') :=
  ite_blind (fun hr => by rw [u16_withCells hm (readable_of_dnsReadable hr)]; exact hk _)
    fun _ => raise_blind

theorem drd32_blind {a : Nat} {k k' : U32 → Out} (hk : ∀ v, Blind m (k v) (k' v))
    (hm : s.AgreesWith m := by assumption) : Blind m (drd32 s a k) (drd32 (s.withCells m) a k') :=
  ite_blind (fun hr => by rw [u32_withCells hm (readable_of_dnsReadable hr)]; exact hk _)
    fun _ => raise_blind

theorem dbytes_blind {a n : Nat} {k k' : Bytes → Out} (hk : ∀ v, Blind m (k v) (k' v))
    (hm : s.AgreesWith m := by assumption) :
    Blind m (dbytes s a n k) (dbytes (s.withCells m) a n k') :=
  ite_blind (fun _ => rdBytes_blind fun _ => hk) fun _ => raise_blind

theorem optLen_blind {k k' : Byte → Out} (hk : ∀ v, Blind m (k v) (k' v))
    (hm : s.AgreesWith m := by assumption) : Blind m (optLen s k) (optLen (s.withCells m) k') :=
  ite_blind (fun _ => rd8_blind hk) fun _ => raise_blind

theorem optFixed_blind {size : Byte} {x x' : Out} (hx : Blind m x x')
    (hm : s.AgreesWith m := by assumption) :
    Blind m (optFixed s size x) (optFixed (s.withCells m) size x') :=
  optLen_blind fun _ => ite_blind (fun _ => raise_blind) fun _ => hx

theorem sackPairs_blind {a n : Nat} {k k' : List (U32 × U32) → Out}
    (hk : ∀ l, Blind m (k l) (k' l)) (hm : s.AgreesWith m := by assumption) :
    Blind m (sackPairs s a n k) (sackPairs (s.withCells m) a n k') := by
  induction n generalizing a k k' with
  | zero => exact hk []
  | succ n ih => exact rd32_blind fun _ => rd32_blind fun _ => ih fun _ => hk _

end

/-! ## The decoders -/

section
variable {s : State} {m : Memory} (hm : s.AgreesWith m)
include hm

theorem decodeEthernet_blind (o : Nat) :
    Blind m (decodeEthernet s o) (decodeEthernet (s.withCells m) o) :=
  enter_blind <| rdBytes_blind fun _ _ => rdBytes_blind fun _ _ => rd16_blind fun _ =>
    ite_blind (fun _ => rd16_blind fun _ => rd16_blind fun _ => rfl) fun _ => rfl

/-- The family is computed from three of the four bytes that were read (R203, R204). -/
theorem decodeNull_blind (o : Nat) :
    Blind m (decodeNull s o) (decodeNull (s.withCells m) o) := by
  refine enter_blind <| rdBytes_blind fun hr _ => ?_
  have hbyte : ∀ a, o ≤ a → a < o + 4 → ((s.entered o).withCells m).u8 a = (s.entered o).u8 a :=
    fun a _ _ => u8_withCells (s := s.entered o) hm (readable_sub _ hr (by omega))
  rw [hbyte o (by omega) (by omega), hbyte (o + 1) (by omega) (by omega),
    hbyte (o + 3) (by omega) (by omega)]
  rfl

theorem decodeSll_blind (o : Nat) : Blind m (decodeSll s o) (decodeSll (s.withCells m) o) :=
  enter_blind <| rd16_blind fun _ => rd16_blind fun _ => rd16_blind fun _ =>
    rdBytes_blind fun _ _ => rd16_blind fun _ => rfl

theorem decodeLlc_blind (o : Nat) : Blind m (decodeLlc s o) (decodeLlc (s.withCells m) o) :=
  enter_blind <| rd8_blind fun _ => rd8_blind fun _ => rfl

theorem llcRest_blind (dsap ssap : Byte) :
    Blind m (llcRest s dsap ssap) (llcRest (s.withCells m) dsap ssap) :=
  rd8_blind fun _ => rd16_blind fun _ => rfl

/-- Where an IPv4 header is put may not depend on the buffer. -/
theorem decodeIpv4_blind (o : Nat) {push : State → Ipv4Hdr → State}
    (same : ∀ u h, push (u.withCells m) h = (push u h).withCells m) :
    Blind m (decodeIpv4 s o push) (decodeIpv4 (s.withCells m) o push) := by
  refine enter_blind <| rd8_blind fun _ => ite_blind (fun _ => raise_blind) fun _ =>
    rd8_blind fun _ => rd16_blind fun _ => rd16_blind fun _ => rd16_blind fun _ =>
    rd8_blind fun _ => rd8_blind fun _ => rd16_blind fun _ => rdBytes_blind fun _ _ =>
    rdBytes_blind fun _ _ => ite_blind (fun _ => raise_blind) fun _ => ?_
  rw [same]
  rfl

/-- Where an IPv6 header is put may not depend on the buffer. -/
theorem decodeIpv6_blind (o : Nat) {push : State → Ipv6Hdr → State}
    (same : ∀ u h, push (u.withCells m) h = (push u h).withCells m) :
    Blind m (decodeIpv6 s o push) (decodeIpv6 (s.withCells m) o push) := by
  refine enter_blind <| rd32_blind fun _ => rd16_blind fun _ => rd8_blind fun _ =>
    rd8_blind fun _ => rdBytes_blind fun _ _ => rdBytes_blind fun _ _ => ?_
  rw [same]
  rfl

theorem decodeExt_blind (p : Byte) : Blind m (decodeExt s p) (decodeExt (s.withCells m) p) := by
  unfold decodeExt
  exact enter_blind <| rd8_blind fun _ => rd8_blind fun _ =>
    ite_blind (fun _ => raise_blind) fun _ => rfl

omit hm in
theorem decodeNoNext_blind (o : Nat) :
    Blind m (decodeNoNext s o) (decodeNoNext (s.withCells m) o) :=
  enter_blind <| ite_blind (fun _ => raise_blind) fun _ => rfl

theorem decodeArp_blind (o : Nat) : Blind m (decodeArp s o) (decodeArp (s.withCells m) o) :=
  enter_blind <| rd16_blind fun _ => rd16_blind fun _ => rd8_blind fun _ =>
    rd8_blind fun _ => rd16_blind fun _ => ite_blind (fun _ => raise_blind) fun _ =>
    rdBytes_blind fun _ _ => rdBytes_blind fun _ _ => rdBytes_blind fun _ _ =>
    rdBytes_blind fun _ _ => rfl

theorem decodeTcp_blind (o : Nat) : Blind m (decodeTcp s o) (decodeTcp (s.withCells m) o) :=
  enter_blind <| rd16_blind fun _ => rd16_blind fun _ => rd32_blind fun _ =>
    rd32_blind fun _ => rd8_blind fun _ => rd8_blind fun _ =>
    ite_blind (fun _ => raise_blind) fun _ => rd16_blind fun _ => rd16_blind fun _ =>
    rd16_blind fun _ => rfl

omit hm in
/-- The payload reference counts bytes below `B_len` and reads none (R88). -/
theorem tcpFinish_blind : Blind m (tcpFinish s) (tcpFinish (s.withCells m)) :=
  ite_blind (fun _ => raise_blind) fun _ => ite_blind (fun _ => rfl) fun _ => rfl

theorem optExp_blind : Blind m (optExp s) (optExp (s.withCells m)) :=
  optLen_blind fun _ => ite_blind (fun _ => raise_blind) fun _ => fits_blind rfl

theorem sackBlocks_blind (n : Nat) : Blind m (sackBlocks s n) (sackBlocks (s.withCells m) n) :=
  fits_blind <| sackPairs_blind fun _ => rfl

theorem decodeUdp_blind (o : Nat) : Blind m (decodeUdp s o) (decodeUdp (s.withCells m) o) :=
  enter_blind <| rd16_blind fun _ => rd16_blind fun _ => rd16_blind fun _ =>
    rd16_blind fun _ => ite_blind (fun _ => raise_blind) fun _ => rfl

theorem decodeIcmp_blind (o : Nat) : Blind m (decodeIcmp s o) (decodeIcmp (s.withCells m) o) :=
  enter_blind <| rd8_blind fun _ => rd8_blind fun _ => rd16_blind fun _ => rfl

theorem decodeIgmp_blind (o : Nat) : Blind m (decodeIgmp s o) (decodeIgmp (s.withCells m) o) :=
  enter_blind <| rd8_blind fun _ => rd8_blind fun _ => rd16_blind fun _ =>
    rdBytes_blind fun _ _ => rfl

/-- The DNS window is set from `B_len`, and the header is read inside it (R350, R367). -/
theorem udpDns_blind : Blind m (udpDns s) (udpDns (s.withCells m)) := by
  unfold udpDns decodeDns
  exact drd16_blind fun _ => drd16_blind fun _ =>
    drd16_blind fun _ => drd16_blind fun _ =>
    drd16_blind fun _ => drd16_blind fun _ => rfl

theorem execDnsLabel_blind (length : BitVec 6) :
    Blind m (execDnsLabel length s) (execDnsLabel length (s.withCells m)) :=
  dbytes_blind fun _ => rfl

theorem execDnsPtr_blind (high : BitVec 6) :
    Blind m (execDnsPtr high s) (execDnsPtr high (s.withCells m)) :=
  drd8_blind fun _ => ite_blind (fun _ => rfl) fun _ => rfl

theorem execRrAIn_blind : Blind m (execRrAIn s) (execRrAIn (s.withCells m)) :=
  ite_blind (fun _ => dbytes_blind fun _ => rfl) fun _ => rfl

theorem execRrAaaaIn_blind : Blind m (execRrAaaaIn s) (execRrAaaaIn (s.withCells m)) :=
  ite_blind (fun _ => dbytes_blind fun _ => rfl) fun _ => rfl

/-- The fields after a name: one case for each use of the name (R353, R354, R363). -/
theorem afterName_blind : Blind m (afterName s) (afterName (s.withCells m)) := by
  have hwork : (s.withCells m).work = s.work := rfl
  simp only [afterName, hwork]
  cases s.work.dns.nameUse with
  | question => exact drd16_blind fun _ => drd16_blind fun _ => rfl
  | owner =>
    exact drd16_blind fun _ => drd16_blind fun _ => drd32_blind fun _ =>
      drd16_blind fun _ => ite_blind (fun _ => raise_blind) fun _ => rfl
  | nsData => rfl

omit hm in
/-- The head of the section loops reads no byte (R350, R352). -/
theorem sectionsHead_blind : Blind m (sectionsHead s) (sectionsHead (s.withCells m)) := by
  have hwork : (s.withCells m).work = s.work := rfl
  have hcfg : (s.withCells m).cfg = s.cfg := rfl
  simp only [sectionsHead, openSection, hwork, hcfg]
  cases s.work.dns.current with
  | some k => exact ite_blind (fun _ => rfl) fun _ => rfl
  | none =>
    cases s.work.dns.pending with
    | nil => rfl
    | cons k later =>
      dsimp only
      split
      · rfl
      · rfl

omit hm in
/-- A finished protocol payload is delivered, or stops the block, whatever the buffer holds (R175). -/
theorem deliverProto_blind (p : ProtoPayload) :
    Blind m (deliverProto s p) (deliverProto (s.withCells m) p) := by
  have hwork : (s.withCells m).work = s.work := rfl
  simp only [deliverProto, hwork]
  cases s.work.net with
  | none => rfl
  | some h => rfl

omit hm in
/-- The tracker has no buffer: it steps on the segment that it has taken (R400, R405). -/
theorem runSegment_blind (c : Classes) :
    Blind m (runSegment c s) (runSegment c (s.withCells m)) := by
  have hobs : (s.withCells m).obs = s.obs := rfl
  simp only [runSegment, hobs]
  cases s.obs with
  | none => rfl
  | some o => rfl

omit hm in
/-- A flow that tests no row steps on its segment, too (R405). -/
theorem observeOther_blind : Blind m (observeOther s) (observeOther (s.withCells m)) := by
  have hobs : (s.withCells m).obs = s.obs := rfl
  simp only [observeOther, hobs]
  cases s.obs with
  | none => rfl
  | some o => exact runSegment_blind _

end

/-! ## The rows -/

/-- Every row is blind to the bytes at or past `B_len`: its decoder is. -/
theorem exec_blind (i : Instr) {s : State} {m : Memory} (hm : s.AgreesWith m) :
    Blind m (exec i s) (exec i (s.withCells m)) := by
  cases i with
  | ltEthernet => exact decodeEthernet_blind hm 0
  | ltNull => exact decodeNull_blind hm 0
  | ltRawIpv4 => exact decodeIpv4_blind (s := s.setLink .raw) hm 0 fun _ _ => rfl
  | ltLinuxSll => exact decodeSll_blind hm 0
  | ltLlc => exact decodeLlc_blind hm 0
  | etIpv4 | nfInet => exact decodeIpv4_blind hm s.work.next fun _ _ => rfl
  | etArp => exact decodeArp_blind hm s.work.next
  | etIpv6 | nfInet6_24 | nfInet6_28 | nfInet6_30 =>
    exact decodeIpv6_blind hm s.work.next fun _ _ => rfl
  | llcSnap | llcBasic => exact llcRest_blind hm _ _
  | pExt0 | pExt43 | pExt51 | pExt60 | pExt135 | pExt139 | pExt140 => exact decodeExt_blind hm _
  | pIcmp => exact decodeIcmp_blind hm s.work.next
  | pIgmp => exact decodeIgmp_blind hm s.work.next
  | pIpv4 => exact decodeIpv4_blind hm s.work.next fun _ _ => rfl
  | pTcp => exact decodeTcp_blind hm s.work.next
  | pUdp => exact decodeUdp_blind hm s.work.next
  | pIpv6 => exact decodeIpv6_blind hm s.work.next fun _ _ => rfl
  | pNoNext => exact decodeNoNext_blind s.work.next
  | optMss => exact optFixed_blind <| fits_blind <| rd16_blind fun _ => rfl
  | optWscale => exact optFixed_blind <| fits_blind <| rd8_blind fun _ => rfl
  | optSackOk => exact optFixed_blind rfl
  | optSack => exact optLen_blind fun _ => rfl
  | optTs => exact optFixed_blind <| fits_blind <| rd32_blind fun _ => rd32_blind fun _ => rfl
  | optExp254 | optExp255 => exact optExp_blind hm
  | sack1 | sack2 | sack3 | sack4 => exact sackBlocks_blind hm _
  | dnsLabel length => exact execDnsLabel_blind hm length
  | dnsPtr high => exact execDnsPtr_blind hm high
  | rrAIn => exact execRrAIn_blind hm
  | rrAaaaIn => exact execRrAaaaIn_blind hm
  | udpDnsSrc | udpDnsDst => exact udpDns_blind hm
  | segSynNoAck | segSynAck | segAck | segFin => exact runSegment_blind _
  | ltOther | etLenLo | etLenHi | etUnknown | nfOther | llcBad | pUnknown | optEol | optNop | optBad
  | sackBad | dnsTerm | dnsRsv01 | dnsRsv10 | rrNsIn | rrOther | arpRequest | arpReply | arpUnknown
  | igmpQuery | igmpV1Report | igmpV2Report | igmpLeave | igmpV3Report | igmpOther | udpPlain => rfl

/-! ## The step -/

section
variable {s : State} {m : Memory}

/-- The row that `SEL` selects, if it selects one. -/
theorem fetchRow_blind (hm : s.AgreesWith m) :
    Blind m (fetchRow s).outcome (fetchRow (s.withCells m)).outcome := by
  have hcfg : (s.withCells m).cfg = s.cfg := rfl
  have hctx : (s.withCells m).ctx = s.ctx := rfl
  simp only [fetchRow, hcfg, hctx]
  cases decode s.cfg s.ctx.sel with
  | ok i => exact exec_blind i hm
  | error e => rfl

/-- The head of the option loop: the kind byte is read below `B_len` (R294). -/
theorem fetchOption_blind (hm : s.AgreesWith m) :
    Blind m (fetchOption s).outcome (fetchOption (s.withCells m)).outcome := by
  simp only [fetchOption, apply_ite Fetched.outcome]
  refine ite_blind (fun _ => ite_blind (fun hr => ?_) fun _ => raise_blind) fun _ => tcpFinish_blind
  have hkind : (s.withCells m).u8 (s.withCells m).work.cur = s.u8 s.work.cur := u8_withCells hm hr
  rw [hkind]
  exact fetchRow_blind (s := s.look _) hm

/-- The head of the name loop: the first byte of a name step is read below `B_len` (R355, R367). -/
theorem fetchLabel_blind (hm : s.AgreesWith m) :
    Blind m (fetchLabel s).outcome (fetchLabel (s.withCells m)).outcome := by
  simp only [fetchLabel, apply_ite Fetched.outcome]
  refine ite_blind (fun hr => ?_) fun _ => raise_blind
  have hbyte : (s.withCells m).u8 (s.withCells m).work.dns.cur = s.u8 s.work.dns.cur :=
    u8_withCells hm (readable_of_dnsReadable hr)
  rw [hbyte]
  exact fetchRow_blind (s := s.look _) hm

/-- The tracker's fetch: the tested row, or the step without one (R405, R146). -/
theorem fetchClass_blind (hm : s.AgreesWith m) :
    Blind m (fetchClass s).outcome (fetchClass (s.withCells m)).outcome := by
  have hobs : (s.withCells m).obs = s.obs := rfl
  cases ho : s.obs with
  | none =>
    simp only [fetchClass, hobs, ho]
    exact observeOther_blind
  | some o =>
    cases hr : o.row with
    | none =>
      simp only [fetchClass, hobs, ho, hr]
      exact observeOther_blind
    | some r =>
      simp only [fetchClass, hobs, ho, hr]
      cases decodeClass r o.seg.tcp.flags.word with
      | ok i => exact exec_blind i hm
      | error e => exact observeOther_blind

end

/-- Settles O59: between calls the step takes a new buffer; in every other mode it reads the buffer
through the bounded reads alone. -/
theorem invisibleBytes : Obligations.InvisibleBytes := by
  unfold Obligations.InvisibleBytes
  intro s m hidle hm
  have hmode : (s.withCells m).mode = s.mode := rfl
  change Blind m (step s) (step (s.withCells m))
  rw [step_eq, step_eq]
  unfold fetch
  rw [hmode]
  cases hmode : s.mode with
  | idle => exact absurd hmode hidle
  | row => exact fetchRow_blind hm
  | options => exact fetchOption_blind hm
  | name => exact fetchLabel_blind hm
  | afterName => exact afterName_blind hm
  | sections => exact sectionsHead_blind
  | deliverNet p => rfl
  | deliverProto p => exact deliverProto_blind p
  | observe => exact fetchClass_blind hm

end Sys2Proof.Machine
end

section
/-! SUPPORT. Byte order (R83, R85) and the window of the DNS reads (R367). -/

namespace Sys2Proof.Machine

/-! ## Byte order -/

/-- Four little-endian bytes fill 32 bits, and no more. -/
theorem toNat_littleEndian_slice (h : Memory) (o : Nat) :
    (BitVec.ofNat 32 (littleEndian (h.slice o 4))).toNat =
      (h.read o).toNat + 256 * (h.read (o + 1)).toNat + 65536 * (h.read (o + 2)).toNat
        + 16777216 * (h.read (o + 3)).toNat := by
  have h0 := (h.read o).isLt
  have h1 := (h.read (o + 1)).isLt
  have h2 := (h.read (o + 2)).isLt
  have h3 := (h.read (o + 3)).isLt
  simp only [Memory.slice, littleEndian, BitVec.toNat_ofNat, Nat.add_assoc, Nat.reduceAdd]
  omega

/-- Settles O8: each field is the little-endian word at its offset. -/
theorem headerLittleEndian : Obligations.HeaderLittleEndian := by
  unfold Obligations.HeaderLittleEndian
  intro h
  exact ⟨toNat_littleEndian_slice h 0, toNat_littleEndian_slice h 4,
    toNat_littleEndian_slice h 8, toNat_littleEndian_slice h 12⟩

/-- Words side by side are a number whose upper part is the left one. -/
theorem toNat_append_eq_add {v w : Nat} (x : BitVec v) (y : BitVec w) :
    (x ++ y).toNat = x.toNat * 2 ^ w + y.toNat := by
  rw [BitVec.toNat_append, ← Nat.shiftLeft_add_eq_or_of_lt y.isLt, Nat.shiftLeft_eq]

/-- A 16-bit read is two bytes, the lower offset more significant (R83). -/
theorem State.toNat_u16 (s : State) (a : Nat) :
    (s.u16 a).toNat = (s.u8 a).toNat * 256 + (s.u8 (a + 1)).toNat := by
  have h0 := (s.u8 a).isLt
  have h1 := (s.u8 (a + 1)).isLt
  rw [s.u16_eq_reads, ← s.u8_eq_read, ← s.u8_eq_read, BitVec.toNat_ofNat]
  omega

/-- A 32-bit read is two 16-bit reads, the lower offset more significant (R83, R86). -/
theorem State.toNat_u32 (s : State) (a : Nat) :
    (s.u32 a).toNat = (s.u16 a).toNat * 65536 + (s.u16 (a + 2)).toNat := by
  have h0 := (s.u8 a).isLt
  have h1 := (s.u8 (a + 1)).isLt
  have h2 := (s.u8 (a + 2)).isLt
  have h3 := (s.u8 (a + 3)).isLt
  have hlow : (s.u16 (a + 2)).toNat = (s.u8 (a + 2)).toNat * 256 + (s.u8 (a + 3)).toNat :=
    s.toNat_u16 (a + 2)
  rw [s.toNat_u16, hlow, s.u32_eq_reads, ← s.u8_eq_read, ← s.u8_eq_read, ← s.u8_eq_read,
    ← s.u8_eq_read, BitVec.toNat_ofNat]
  omega

/-- Settles O11: the halves of a read, as numbers and side by side. -/
theorem mixedWidthReads : Obligations.MixedWidthReads := by
  unfold Obligations.MixedWidthReads
  intro s a
  refine ⟨s.toNat_u32 a, s.toNat_u16 a, s.u8_eq_read a, ?_, ?_⟩
  · exact BitVec.eq_of_toNat_eq (by simp only [s.toNat_u32, toNat_append_eq_add, Nat.reducePow])
  · exact BitVec.eq_of_toNat_eq (by simp only [s.toNat_u16, toNat_append_eq_add, Nat.reducePow])

/-! ## The DNS window -/

/-- Outside the window the bound check of a DNS read fails, whatever `B_len` (R367). -/
theorem State.dnsReadable_of_outside {s : State} {a n : Nat}
    (h : a < s.ctx.dnsbase ∨ s.ctx.dnsend < a + n) : s.dnsReadable a n = false := by
  rw [State.dnsReadable, ← Bool.decide_and, decide_eq_false (by omega), Bool.false_and]

/-- Inside the window it is the bound check of R84. -/
theorem State.dnsReadable_of_inside {s : State} {a n : Nat}
    (h : ¬(a < s.ctx.dnsbase ∨ s.ctx.dnsend < a + n)) : s.dnsReadable a n = s.readable a n := by
  rw [State.dnsReadable, ← Bool.decide_and, decide_eq_true (by omega), Bool.true_and]

/-- Settles O12: outside the window the check of a DNS read fails, inside it the check is the read's
own. -/
theorem dnsWindowReads : Obligations.DnsWindowReads := by
  unfold Obligations.DnsWindowReads
  intro s a n
  refine ⟨fun k => ?_, fun k => ?_, fun k => ?_, fun k => ?_⟩
  · split
    · next out => exact drd8_truncated s a k (State.dnsReadable_of_outside out)
    · next inside => rw [drd8, State.dnsReadable_of_inside inside, rd8]
  · split
    · next out => exact drd16_truncated s a k (State.dnsReadable_of_outside out)
    · next inside => rw [drd16, State.dnsReadable_of_inside inside, rd16]
  · split
    · next out => exact drd32_truncated s a k (State.dnsReadable_of_outside out)
    · next inside => rw [drd32, State.dnsReadable_of_inside inside, rd32]
  · split
    · next out => exact dbytes_truncated s a n k (.inl out)
    · next inside => exact if_pos (Nat.not_lt.1 inside)

end Sys2Proof.Machine
end

section
/-! SUPPORT. The UDP header under its row (R241, R305). -/

namespace Sys2Proof.Machine

/-- A readable UDP header with a legal length is kept, its fields as the buffer holds them, and its ports
are looked up (R305). -/
theorem decodeUdp_ok {s : State} {o : Nat}
    (hdepth : Config.tooDeep s.cfg (s.ctx.depth + 1) = false) (hr : s.readable o 8 = true)
    (hlen : 8 ≤ (s.u16 (o + 4)).toNat) :
    decodeUdp s o = .next (((s.entered o).setWork
      { s.work with
        udp :=
          { srcPort := s.u16 o, dstPort := s.u16 (o + 2), length := s.u16 (o + 4)
            checksum := s.u16 (o + 6), checksumStatus := .unchecked
            data := s.ref (o + 8) ((s.u16 (o + 4)).toNat - 8), dns := none } }).look
      (.udpport (portCode (s.u16 o) (s.u16 (o + 2))))) := by
  have hin : ∀ a, a + 2 ≤ o + 8 → (s.entered o).readable a 2 = true := fun a h =>
    readable_sub s hr h
  have hlen' : ¬ ((s.entered o).u16 (o + 4)).toNat < 8 := Nat.not_lt.2 hlen
  rw [decodeUdp, enter_ok s o _ hdepth, rd16_ok _ _ _ (hin _ (by omega)),
    rd16_ok _ _ _ (hin _ (by omega)), rd16_ok _ _ _ (hin _ (by omega)),
    rd16_ok _ _ _ (hin _ (by omega)), if_neg hlen']
  rfl

/-- Settles O29: the row decodes the header where the protocol dispatch has left off. -/
theorem udpResult : Obligations.UdpResult := by
  unfold Obligations.UdpResult
  intro s hdepth o n hr hlen
  exact decodeUdp_ok hdepth hr hlen

end Sys2Proof.Machine
end

section
/-! SUPPORT. A header that is cut off (R84, R463). `CutAt` says of an outcome that it reads the
listed fields in their order and raises `TRUNCATED` at the first one that does not lie below `B_len`; there
is one rule for a field and one for a check between two fields, and one lemma for each decoder. -/

namespace Sys2Proof.Machine

/-! ## Reading fields in order -/

/-- The outcome reads the fields at `o`, given as offset and size, in the order of the list, and raises at
the first one that does not lie below `B_len`. The check `ok` stands after the fields up to the offset `d`:
those after it are read only if it passes. -/
def CutAt (s : State) (o d : Nat) (ok : Bool) : List (Nat × Nat) → Out → Prop
  | [], _ => True
  | f :: fields, x =>
    (s.readable (o + f.1) f.2 = false → (f.1 ≤ d ∨ ok = true) →
      x = .next (s.raised .truncated (o + f.1))) ∧
    (s.readable (o + f.1) f.2 = true → CutAt s o d ok fields x)

section
variable {s : State} {o d : Nat} {ok : Bool} {fields : List (Nat × Nat)} {x y : Out}

/-- Nothing to read: what follows is not looked at. -/
theorem cutAt_nil : CutAt s o d ok [] x := trivial

/-- A bounded read (R84). -/
theorem cutAt_cons {e n : Nat} (hx : CutAt s o d ok fields x) :
    CutAt s o d ok ((e, n) :: fields)
      (if s.readable (o + e) n then x else s.raise .truncated (o + e)) :=
  ⟨fun hcut _ => if_neg (by simp [hcut]), fun hr => by rw [if_pos hr]; exact hx⟩

/-- After a check that fails nothing more is read. -/
theorem cutAt_of_failed (hok : ok = false) (hafter : ∀ f ∈ fields, d < f.1) :
    CutAt s o d ok fields x := by
  induction fields with
  | nil => trivial
  | cons f fields ih =>
    obtain ⟨hf, hrest⟩ := List.forall_mem_cons.1 hafter
    exact ⟨fun _ hcheck => by simp [hok] at hcheck; omega, fun _ => ih hrest⟩

/-- The check between two fields. -/
theorem cutAt_check {p : Prop} [Decidable p] (hok : ok = true → ¬p)
    (hafter : ∀ f ∈ fields, d < f.1) (hx : CutAt s o d ok fields x) :
    CutAt s o d ok fields (if p then y else x) := by
  cases ok with
  | false => exact cutAt_of_failed rfl hafter
  | true => exact (if_neg (hok rfl)).symm ▸ hx

/-- Fields with rising offsets: the first one that is missing is the one with all fields below it
present. -/
theorem CutAt.truncated {f : Nat × Nat} (h : CutAt s o d ok fields x)
    (hrise : fields.Pairwise (fun f g => f.1 < g.1)) (hf : f ∈ fields)
    (hpast : s.req.blen < o + f.1 + f.2)
    (hbefore : ∀ g ∈ fields, g.1 < f.1 → o + g.1 + g.2 ≤ s.req.blen)
    (hcheck : f.1 ≤ d ∨ ok = true) : x = .next (s.raised .truncated (o + f.1)) := by
  induction fields with
  | nil => cases hf
  | cons g fields ih =>
    obtain ⟨hcut, hgoes⟩ := h
    obtain ⟨hlt, hrise⟩ := List.pairwise_cons.1 hrise
    rcases List.mem_cons.1 hf with rfl | hmem
    · exact hcut ((s.readable_eq_false _ _).2 hpast) hcheck
    · have hin : o + g.1 + g.2 ≤ s.req.blen := hbefore g List.mem_cons_self (hlt f hmem)
      exact ih (hgoes (State.readable_of_not_past (Nat.not_lt.2 hin))) hrise hmem
        fun g' hg' => hbefore g' (List.mem_cons_of_mem _ hg')

/-- Two fields that are read whatever they hold, and where each one is cut off. -/
theorem CutAt.pair {e n e' n' : Nat} (h : CutAt s o d true [(e, n), (e', n')] x) :
    (s.req.blen < o + e + n → x = .next (s.raised .truncated (o + e))) ∧
    (o + e + n ≤ s.req.blen → s.req.blen < o + e' + n' →
      x = .next (s.raised .truncated (o + e'))) := by
  obtain ⟨hcut, hgoes⟩ := h
  refine ⟨fun hpast => hcut ((s.readable_eq_false _ _).2 hpast) (.inr rfl), fun hin hpast => ?_⟩
  obtain ⟨hcut', -⟩ := hgoes (State.readable_of_not_past (Nat.not_lt.2 hin))
  exact hcut' ((s.readable_eq_false _ _).2 hpast) (.inr rfl)

end

/-- The fields of every header are listed with rising offsets. -/
theorem headerFields_rise (i : Instr) : (headerFields i).Pairwise (fun f g => f.1 < g.1) := by
  unfold headerFields
  split <;> simp [ipv4Fields, ipv6Fields]

/-! ## The decoders -/

section
variable {s : State} (hdepth : Config.tooDeep s.cfg (s.ctx.depth + 1) = false) (o : Nat)
include hdepth

theorem decodeEthernet_cutAt :
    CutAt (s.entered o) o 0 true (headerFields .ltEthernet) (decodeEthernet s o) := by
  rw [decodeEthernet, enter_ok s o _ hdepth]
  exact cutAt_cons <| cutAt_cons <| cutAt_cons cutAt_nil

theorem decodeNull_cutAt :
    CutAt (s.entered o) o 0 true (headerFields .ltNull) (decodeNull s o) := by
  rw [decodeNull, enter_ok s o _ hdepth]
  exact cutAt_cons cutAt_nil

theorem decodeSll_cutAt :
    CutAt (s.entered o) o 0 true (headerFields .ltLinuxSll) (decodeSll s o) := by
  rw [decodeSll, enter_ok s o _ hdepth]
  exact cutAt_cons <| cutAt_cons <| cutAt_cons <| cutAt_cons <| cutAt_cons cutAt_nil

theorem decodeLlc_cutAt : CutAt (s.entered o) o 0 true (headerFields .ltLlc) (decodeLlc s o) := by
  rw [decodeLlc, enter_ok s o _ hdepth]
  exact cutAt_cons <| cutAt_cons cutAt_nil

/-- The IHL is checked after the first byte (R230). -/
theorem decodeIpv4_cutAt (push : State → Ipv4Hdr → State) :
    CutAt (s.entered o) o 0 (decide (5 ≤ ipv4Ihl (s.u8 o))) ipv4Fields (decodeIpv4 s o push) := by
  rw [decodeIpv4, enter_ok s o _ hdepth]
  exact cutAt_cons <| cutAt_check (fun hok => Nat.not_lt.2 (of_decide_eq_true hok)) (by simp) <|
    cutAt_cons <| cutAt_cons <| cutAt_cons <| cutAt_cons <| cutAt_cons <| cutAt_cons <|
    cutAt_cons <| cutAt_cons <| cutAt_cons cutAt_nil

theorem decodeIpv6_cutAt (push : State → Ipv6Hdr → State) :
    CutAt (s.entered o) o 0 true ipv6Fields (decodeIpv6 s o push) := by
  rw [decodeIpv6, enter_ok s o _ hdepth]
  exact cutAt_cons <| cutAt_cons <| cutAt_cons <| cutAt_cons <| cutAt_cons <| cutAt_cons cutAt_nil

/-- Both lengths are checked after the operation (R248). -/
theorem decodeArp_cutAt :
    CutAt (s.entered o) o 6 (s.u8 (o + 4) == 6#8 && s.u8 (o + 5) == 4#8) (headerFields .etArp)
      (decodeArp s o) := by
  have hlens : (s.u8 (o + 4) == 6#8 && s.u8 (o + 5) == 4#8) = true →
      ¬¬(s.u8 (o + 4) = 6#8 ∧ s.u8 (o + 5) = 4#8) := by simp
  rw [decodeArp, enter_ok s o _ hdepth]
  exact cutAt_cons <| cutAt_cons <| cutAt_cons <| cutAt_cons <| cutAt_cons <| cutAt_check hlens (by simp) <|
    cutAt_cons <| cutAt_cons <| cutAt_cons <| cutAt_cons cutAt_nil

/-- The data offset is checked after the flags (R290). -/
theorem decodeTcp_cutAt :
    CutAt (s.entered o) o 13 (decide (5 ≤ tcpDataOffset (s.u8 (o + 12)))) (headerFields .pTcp)
      (decodeTcp s o) := by
  rw [decodeTcp, enter_ok s o _ hdepth]
  exact cutAt_cons <| cutAt_cons <| cutAt_cons <| cutAt_cons <| cutAt_cons <| cutAt_cons <|
    cutAt_check (fun hok => Nat.not_lt.2 (of_decide_eq_true hok)) (by simp) <|
    cutAt_cons <| cutAt_cons <| cutAt_cons cutAt_nil

theorem decodeUdp_cutAt :
    CutAt (s.entered o) o 0 true (headerFields .pUdp) (decodeUdp s o) := by
  rw [decodeUdp, enter_ok s o _ hdepth]
  exact cutAt_cons <| cutAt_cons <| cutAt_cons <| cutAt_cons cutAt_nil

theorem decodeIcmp_cutAt :
    CutAt (s.entered o) o 0 true (headerFields .pIcmp) (decodeIcmp s o) := by
  rw [decodeIcmp, enter_ok s o _ hdepth]
  exact cutAt_cons <| cutAt_cons <| cutAt_cons cutAt_nil

theorem decodeIgmp_cutAt :
    CutAt (s.entered o) o 0 true (headerFields .pIgmp) (decodeIgmp s o) := by
  rw [decodeIgmp, enter_ok s o _ hdepth]
  exact cutAt_cons <| cutAt_cons <| cutAt_cons <| cutAt_cons cutAt_nil

omit o in
theorem decodeExt_cutAt (p : Byte) :
    CutAt (s.entered s.work.next) s.work.next 0 true [(0, 1), (1, 1)] (decodeExt s p) := by
  simp only [decodeExt]
  rw [enter_ok s _ _ hdepth]
  exact cutAt_cons <| cutAt_cons cutAt_nil

end

/-- The two fields of an 802.1Q tag, when the type field announces one (R190, R191). -/
theorem decodeEthernet_tag_cutAt {s : State}
    (hdepth : Config.tooDeep s.cfg (s.ctx.depth + 1) = false) (hr : s.readable 0 14 = true)
    (htag : s.u16 12 = s.cfg.vlanTpid) :
    CutAt (s.entered 0) 0 0 true [(14, 2), (16, 2)] (decodeEthernet s 0) := by
  have hin : ∀ a n, a + n ≤ 0 + 14 → (s.entered 0).readable a n = true := fun a n h =>
    readable_sub s hr h
  have htag' : (s.entered 0).u16 (0 + 12) = (s.entered 0).cfg.vlanTpid := htag
  rw [decodeEthernet, enter_ok s 0 _ hdepth, rdBytes_ok _ _ _ _ (hin _ 6 (by omega)),
    rdBytes_ok _ _ _ _ (hin _ 6 (by omega)), rd16_ok _ _ _ (hin _ 2 (by omega)), if_pos htag']
  exact cutAt_cons <| cutAt_cons cutAt_nil

/-- The control byte and the ethertype after a decodable SAP pair (R198). -/
theorem llcRest_cutAt (s : State) (dsap ssap : Byte) :
    CutAt s s.ctx.off 0 true [(2, 1), (6, 2)] (llcRest s dsap ssap) :=
  cutAt_cons <| cutAt_cons cutAt_nil

/-! ## The rows -/

/-- Every header row reads its fields in order: its decoder does. -/
theorem exec_cutAt {i : Instr} {s : State} (hi : isHeaderRow i = true)
    (hdepth : Config.tooDeep s.cfg (s.ctx.depth + 1) = false) :
    CutAt (s.entered (headerStart i s)) (headerStart i s) (headerCheck i s (headerStart i s)).1
      (headerCheck i s (headerStart i s)).2 (headerFields i) (exec i s) := by
  cases i with
  | ltEthernet => exact decodeEthernet_cutAt hdepth 0
  | ltNull => exact decodeNull_cutAt hdepth 0
  | ltRawIpv4 => exact decodeIpv4_cutAt (s := s.setLink .raw) hdepth 0 _
  | ltLinuxSll => exact decodeSll_cutAt hdepth 0
  | ltLlc => exact decodeLlc_cutAt hdepth 0
  | etIpv4 | nfInet | pIpv4 => exact decodeIpv4_cutAt hdepth _ _
  | etIpv6 | nfInet6_24 | nfInet6_28 | nfInet6_30 | pIpv6 => exact decodeIpv6_cutAt hdepth _ _
  | etArp => exact decodeArp_cutAt hdepth _
  | pExt0 | pExt43 | pExt51 | pExt60 | pExt135 | pExt139 | pExt140 => exact decodeExt_cutAt hdepth _
  | pTcp => exact decodeTcp_cutAt hdepth _
  | pUdp => exact decodeUdp_cutAt hdepth _
  | pIcmp => exact decodeIcmp_cutAt hdepth _
  | pIgmp => exact decodeIgmp_cutAt hdepth _
  | pNoNext => exact cutAt_nil
  | _ => cases hi

/-- Settles O38: each header row reads its fields in order (`exec_cutAt`), and so do the two fields of a
tag and the rest of the LLC header. -/
theorem truncatedAtFirstField : Obligations.TruncatedAtFirstField := by
  unfold Obligations.TruncatedAtFirstField
  refine ⟨fun i s f hi hdepth => (exec_cutAt hi hdepth).truncated (headerFields_rise i),
    fun s hdepth hr htag => ?_, fun s i hi => ?_⟩
  · exact (decodeEthernet_tag_cutAt hdepth hr htag).pair
  · simp only [List.mem_cons, List.not_mem_nil, or_false] at hi
    rcases hi with rfl | rfl
    · exact (llcRest_cutAt s _ _).pair
    · exact (llcRest_cutAt s _ _).pair

end Sys2Proof.Machine
end

section
/-! SUPPORT. Where the option loop and its rows raise (R294 to R304). -/

namespace Sys2Proof.Machine

/-! ## The length byte and the area -/

section
variable {s : State}

/-- A length byte outside the area (R304). -/
theorem optLen_past (h : s.ctx.optend < s.work.cur + 2) (k : Byte → Out) :
    optLen s k = .next (s.raised .tcpOptionBadLength s.work.cur) := if_neg (Nat.not_le.2 h)

/-- A length byte in the area that does not lie below `B_len` (R84). -/
theorem optLen_cut (h : s.work.cur + 2 ≤ s.ctx.optend)
    (hr : s.readable (s.work.cur + 1) 1 = false) (k : Byte → Out) :
    optLen s k = .next (s.raised .truncated (s.work.cur + 1)) :=
  (if_pos h).trans (rd8_truncated _ _ _ hr)

/-- A length byte in the area is handed on (R304). -/
theorem optLen_ok (h : s.work.cur + 2 ≤ s.ctx.optend)
    (hr : s.readable (s.work.cur + 1) 1 = true) (k : Byte → Out) :
    optLen s k = k (s.u8 (s.work.cur + 1)) :=
  (if_pos h).trans (rd8_ok _ _ _ hr)

/-- An option that runs past the area (R304). -/
theorem fits_past {l : Nat} (h : s.ctx.optend < s.work.cur + l) (x : Out) :
    fits s l x = .next (s.raised .tcpOptionBadLength s.work.cur) := if_neg (Nat.not_le.2 h)

/-- An option inside the area (R304). -/
theorem fits_ok {l : Nat} (h : s.work.cur + l ≤ s.ctx.optend) (x : Out) : fits s l x = x := if_pos h

variable (h : s.work.cur + 2 ≤ s.ctx.optend) (hr : s.readable (s.work.cur + 1) 1 = true)
include h hr

/-- A length other than the kind's (R297 to R301). -/
theorem optFixed_wrong {size : Byte} (hl : s.u8 (s.work.cur + 1) ≠ size) (x : Out) :
    optFixed s size x = .next (s.raised .tcpOptionBadLength s.work.cur) :=
  (optLen_ok h hr _).trans (if_pos hl)

/-- The length of the kind (R297 to R301). -/
theorem optFixed_ok {size : Byte} (hl : s.u8 (s.work.cur + 1) = size) (x : Out) :
    optFixed s size x = x :=
  (optLen_ok h hr _).trans (if_neg (not_not.2 hl))

/-- An option of fixed size whose declared length runs past the area: the length is wrong, or the option
does not fit. -/
theorem optFixed_past {size : Byte} (hpast : s.ctx.optend < s.work.cur + (s.u8 (s.work.cur + 1)).toNat)
    (x : Out) :
    optFixed s size (fits s size.toNat x) = .next (s.raised .tcpOptionBadLength s.work.cur) := by
  by_cases hl : s.u8 (s.work.cur + 1) = size
  · rw [optFixed_ok h hr hl, fits_past (hl ▸ hpast)]
  · exact optFixed_wrong h hr hl _

/-- An experimental option shorter than its own two bytes (R302). -/
theorem optExp_short (hl : (s.u8 (s.work.cur + 1)).toNat < 2) :
    optExp s = .next (s.raised .tcpOptionBadLength s.work.cur) :=
  (optLen_ok h hr _).trans (if_pos hl)

/-- An experimental option that runs past the area (R302). -/
theorem optExp_past (hpast : s.ctx.optend < s.work.cur + (s.u8 (s.work.cur + 1)).toNat) :
    optExp s = .next (s.raised .tcpOptionBadLength s.work.cur) := by
  by_cases hl : (s.u8 (s.work.cur + 1)).toNat < 2
  · exact optExp_short h hr hl
  · exact (optLen_ok h hr _).trans ((if_neg hl).trans (fits_past hpast _))

end

/-- An option of fixed size inside the area, with its length, goes on to its value bytes (R297 to
R301). -/
theorem optFixed_value {s : State} {size : Byte} (hr : s.readable (s.work.cur + 1) 1 = true)
    (hl : s.u8 (s.work.cur + 1) = size) (hfits : s.work.cur + size.toNat ≤ s.ctx.optend)
    (hsize : 2 ≤ size.toNat) (x : Out) : optFixed s size (fits s size.toNat x) = x := by
  rw [optFixed_ok (by omega) hr hl, fits_ok hfits]

/-! ## The SACK pairs -/

/-- Edge `j` of the SACK pairs is cut off, and every edge before it is read (R300). -/
theorem sackPairs_truncated {s : State} {n j : Nat} (a : Nat) (k : List (U32 × U32) → Out)
    (hj : j < 2 * n) (hbefore : j = 0 ∨ s.readable a (4 * j) = true)
    (hcut : s.readable (a + 4 * j) 4 = false) :
    sackPairs s a n k = .next (s.raised .truncated (a + 4 * j)) := by
  induction n generalizing a j k with
  | zero => omega
  | succ n ih =>
    match j with
    | 0 => exact rd32_truncated s a _ hcut
    | 1 =>
      have hleft : s.readable a 4 = true := hbefore.resolve_left (by omega)
      exact (rd32_ok s a _ hleft).trans (rd32_truncated s (a + 4) _ hcut)
    | j + 2 =>
      have hread : s.readable a (4 * (j + 2)) = true := hbefore.resolve_left (by omega)
      have hoff : a + 4 * (j + 2) = a + 8 + 4 * j := by omega
      have hrest : j = 0 ∨ s.readable (a + 8) (4 * j) = true :=
        .inr (readable_sub s hread (by omega))
      rw [sackPairs, rd32_ok s a _ (readable_sub s hread (by omega)),
        rd32_ok s (a + 4) _ (readable_sub s hread (by omega)), hoff]
      exact ih _ _ (by omega) hrest (hoff ▸ hcut)

/-- A SACK option inside the area whose edge `j` is cut off (R300). -/
theorem sackBlocks_truncated {s : State} {n j : Nat}
    (hfits : s.work.cur + (8 * n + 2) ≤ s.ctx.optend) (hj : j < 2 * n)
    (hbefore : j = 0 ∨ s.readable (s.work.cur + 2) (4 * j) = true)
    (hcut : s.readable (s.work.cur + 2 + 4 * j) 4 = false) :
    sackBlocks s n = .next (s.raised .truncated (s.work.cur + 2 + 4 * j)) :=
  (fits_ok hfits _).trans (sackPairs_truncated _ _ hj hbefore hcut)

/-- The rows of `SACKLEN` with a length are the SACK option of their number of pairs (R140). -/
theorem exec_sackRow {n : Nat} {row : Instr}
    (h : (n, row) ∈ [(1, Instr.sack1), (2, Instr.sack2), (3, Instr.sack3), (4, Instr.sack4)])
    (s : State) : exec row s = sackBlocks s n := by
  simp only [List.mem_cons, Prod.mk.injEq, List.not_mem_nil, or_false] at h
  rcases h with ⟨rfl, rfl⟩ | ⟨rfl, rfl⟩ | ⟨rfl, rfl⟩ | ⟨rfl, rfl⟩ <;> rfl

/-! ## The head of the loop -/

/-- The kind byte is cut off (R294). -/
theorem step_kind_cut {s : State} (hm : s.mode = .options) (hin : s.work.cur < s.ctx.optend)
    (hcut : s.readable s.work.cur 1 = false) :
    step s = .next (s.raised .truncated s.work.cur) := by
  simp only [step, fetch, hm, fetchOption, if_pos hin, hcut, Bool.false_eq_true, if_false,
    State.raise_eq]

/-- Settles O28: every row but those of the SACK pairs begins with the length byte (`optLen`), and the
value bytes and the pairs are bounded reads after the checks. -/
theorem optionTraps : Obligations.OptionTraps := by
  unfold Obligations.OptionTraps
  intro s i bad l
  refine ⟨fun h => ?_, fun h hr => ?_, fun h hr => ?_, step_kind_cut, fun hr hl hfits hcut => ?_,
    fun hr hl hfits hcut => ?_, fun hr hl hfits => ⟨fun hcut => ?_, fun hval hcut => ?_⟩,
    fun n j row hrow hfits hj hbefore hcut => ?_⟩
  · have past : ∀ k, optLen s k = bad := optLen_past h
    exact ⟨past _, past _, past _, past _, past _, past _, past _⟩
  · exact ⟨fun hl => optFixed_wrong h hr hl _, fun hl => optFixed_wrong h hr hl _,
      fun hl => optFixed_wrong h hr hl _, fun hl => optFixed_wrong h hr hl _,
      fun hl => ⟨optExp_short h hr hl, optExp_short h hr hl⟩,
      fun hpast => ⟨optFixed_past h hr hpast _, optFixed_past h hr hpast _,
        optFixed_past h hr hpast _, optExp_past h hr hpast, optExp_past h hr hpast⟩⟩
  · have cut : ∀ k, optLen s k = .next (s.raised .truncated (i + 1)) := optLen_cut h hr
    exact ⟨cut _, cut _, cut _, cut _, cut _, cut _, cut _⟩
  · exact (optFixed_value hr hl hfits (by decide) _).trans (rd16_truncated _ _ _ hcut)
  · exact (optFixed_value hr hl hfits (by decide) _).trans (rd8_truncated _ _ _ hcut)
  · exact (optFixed_value hr hl hfits (by decide) _).trans (rd32_truncated _ _ _ hcut)
  · exact (optFixed_value hr hl hfits (by decide) _).trans
      ((rd32_ok _ _ _ hval).trans (rd32_truncated _ _ _ hcut))
  · exact (exec_sackRow hrow s).trans (sackBlocks_truncated hfits hj hbefore hcut)

end Sys2Proof.Machine
end

section
/-! SUPPORT. The decoder against the encoder and against the dispatch tables (R133 to R146): every
row is read back from its selector, every selector that decodes is that of its row, and the row is the
first of its table that matches. -/

namespace Sys2Proof

/-! ## Table TCPCLASS -/

/-- The instruction of a row of `TCPCLASS` on a flag word (R146). -/
def ClassRow.instr : ClassRow → BitVec 9 → Instr
  | .synNoAck, f => .segSynNoAck f
  | .synAck, f => .segSynAck f
  | .ack, f => .segAck f
  | .fin, f => .segFin f

/-- A row of `TCPCLASS` is selected exactly when it holds (R146). -/
theorem decodeClass_eq (row : ClassRow) (f : BitVec 9) :
    decodeClass row f = if row.holds f then .ok (row.instr f) else .error (.classMiss row f) := by
  cases row <;> rfl

theorem decodeClass_ok_iff {row : ClassRow} {f : BitVec 9} {i : Instr} :
    decodeClass row f = .ok i ↔ row.holds f = true ∧ i = row.instr f := by
  rw [decodeClass_eq]
  split
  · next h => simp [h, eq_comm]
  · next h => simp [h]

/-- A row of `TCPCLASS` is well formed on the flag words on which it holds. -/
theorem ClassRow.wf_instr (cfg : Config) (row : ClassRow) (f : BitVec 9) :
    (row.instr f).wf cfg = row.holds f := by cases row <;> rfl

theorem ClassRow.encode_instr (cfg : Config) (row : ClassRow) (f : BitVec 9) :
    encode cfg (row.instr f) = .tcpclass row f := by cases row <;> rfl

/-! ## The checks of the open rows -/

/-- The check of a row with open bits: no earlier row of its table has the code. -/
theorem not_contains_iff {w : Nat} {l : List (BitVec w)} {c : BitVec w} :
    (!l.contains c) = true ↔ ∀ p ∈ l, c ≠ p := by
  rw [Bool.not_eq_true', ← Bool.not_eq_true, List.contains_iff_mem]
  exact ⟨fun h p hp hc => h (hc ▸ hp), fun h hc => h c hc rfl⟩

theorem bne_and_bne_iff {w : Nat} {a b c d : BitVec w} :
    (a != b && c != d) = true ↔ a ≠ b ∧ c ≠ d := by
  rw [Bool.and_eq_true, bne_iff_ne, bne_iff_ne]

theorem Config.namesEthertype_eq_false_iff (cfg : Config) (t : BitVec 16) :
    cfg.namesEthertype t = false ↔ t ≠ cfg.etIpv4 ∧ t ≠ cfg.etArp ∧ t ≠ cfg.etIpv6 := by
  simp [Config.namesEthertype, and_assoc]

theorem wf_etLenLo_iff {cfg : Config} {t : BitVec 16} : (Instr.etLenLo t).wf cfg = true ↔
    cfg.namesEthertype t = false ∧ t.toNat < cfg.ethertypeMin ∧ t.toNat < 1024 := by
  rw [show (Instr.etLenLo t).wf cfg = (!cfg.namesEthertype t && decide (t.toNat < cfg.ethertypeMin)
    && decide (t.toNat < 1024)) from rfl]
  simp [and_assoc]

theorem wf_etLenHi_iff {cfg : Config} {t : BitVec 16} : (Instr.etLenHi t).wf cfg = true ↔
    cfg.namesEthertype t = false ∧ t.toNat < cfg.ethertypeMin ∧ 1024 ≤ t.toNat := by
  rw [show (Instr.etLenHi t).wf cfg = (!cfg.namesEthertype t && decide (t.toNat < cfg.ethertypeMin)
    && decide (1024 ≤ t.toNat)) from rfl]
  simp [and_assoc]

theorem wf_etUnknown_iff {cfg : Config} {t : BitVec 16} : (Instr.etUnknown t).wf cfg = true ↔
    cfg.namesEthertype t = false ∧ cfg.ethertypeMin ≤ t.toNat := by
  rw [show (Instr.etUnknown t).wf cfg = (!cfg.namesEthertype t
    && decide (cfg.ethertypeMin ≤ t.toNat)) from rfl]
  simp

/-! ## From a selector to its row -/

/-- The instruction is well formed and its selector is `sel`. -/
def Instr.EncodedAs (cfg : Config) (sel : Selector) (i : Instr) : Prop :=
  i.wf cfg = true ∧ encode cfg i = sel

section
variable {cfg : Config} {i j : Instr} {sel : Selector} {w : Nat} {table : BitVec w → Selector}
  {c p : BitVec w}

theorem encodedAs_ite {q : Prop} [Decidable q] (hi : q → i.EncodedAs cfg sel)
    (hj : ¬q → j.EncodedAs cfg sel) : (if q then i else j).EncodedAs cfg sel := by
  split
  · next h => exact hi h
  · next h => exact hj h

/-- A row with the exact code `p` encodes every code that equals `p`. -/
theorem encodedAs_of_eq (hwf : i.wf cfg = true) (hencode : encode cfg i = table p) (h : c = p) :
    i.EncodedAs cfg (table c) := ⟨hwf, h ▸ hencode⟩

/-- A row with an exact code and no check, before the other rows of its table. -/
theorem encodedAs_exact (hwf : i.wf cfg = true) (hencode : encode cfg i = table p)
    (hj : ¬c = p → j.EncodedAs cfg (table c)) :
    (if c = p then i else j).EncodedAs cfg (table c) :=
  encodedAs_ite (encodedAs_of_eq hwf hencode) hj

end

section
variable (cfg : Config)

theorem decodeLinkCode_encodedAs (c : BitVec 3) :
    (decodeLinkCode c).EncodedAs cfg (.link c) := by
  unfold decodeLinkCode
  iterate 5 refine encodedAs_exact rfl rfl fun _ => ?_
  exact ⟨decide_eq_true (by bv_omega), rfl⟩

theorem decodeEthertype_encodedAs (t : BitVec 16) :
    (decodeEthertype cfg t).EncodedAs cfg (.ethertype t) := by
  unfold decodeEthertype
  refine encodedAs_exact rfl rfl fun hipv4 => ?_
  refine encodedAs_ite (fun harp => ?_) fun harp => ?_
  · exact encodedAs_of_eq (bne_iff_ne.2 (harp ▸ hipv4)) rfl harp
  refine encodedAs_ite (fun hipv6 => ?_) fun hipv6 => ?_
  · exact encodedAs_of_eq (bne_and_bne_iff.2 (hipv6 ▸ ⟨hipv4, harp⟩)) rfl hipv6
  have hnamed : cfg.namesEthertype t = false := 
    (cfg.namesEthertype_eq_false_iff t).2 ⟨hipv4, harp, hipv6⟩
  refine encodedAs_ite (fun hlen => encodedAs_ite (fun hlo => ?_) fun hhi => ?_) fun hlong => ?_
  · exact ⟨wf_etLenLo_iff.2 ⟨hnamed, hlen, hlo⟩, rfl⟩
  · exact ⟨wf_etLenHi_iff.2 ⟨hnamed, hlen, Nat.not_lt.1 hhi⟩, rfl⟩
  · exact ⟨wf_etUnknown_iff.2 ⟨hnamed, Nat.not_lt.1 hlong⟩, rfl⟩

theorem decodeNullFamily_encodedAs (f : BitVec 8) :
    (decodeNullFamily f).EncodedAs cfg (.nullfam f) := by
  unfold decodeNullFamily
  iterate 4 refine encodedAs_exact rfl rfl fun _ => ?_
  exact ⟨not_contains_iff.2 (by simp [*]), rfl⟩

theorem decodeSap_encodedAs (p : BitVec 16) : (decodeSap p).EncodedAs cfg (.llcsap p) := by
  unfold decodeSap
  refine encodedAs_exact rfl rfl fun h => encodedAs_exact rfl rfl fun h' => ?_
  exact ⟨bne_and_bne_iff.2 ⟨h, h'⟩, rfl⟩

theorem decodeProtocol_encodedAs (p : BitVec 8) :
    (decodeProtocol p).EncodedAs cfg (.ipproto p) := by
  unfold decodeProtocol
  iterate 14 refine encodedAs_exact rfl rfl fun _ => ?_
  exact ⟨not_contains_iff.2 (by simp [namedProtocols, *]), rfl⟩

theorem decodeOptionKind_encodedAs (k : BitVec 8) :
    (decodeOptionKind k).EncodedAs cfg (.tcpopt k) := by
  unfold decodeOptionKind
  iterate 9 refine encodedAs_exact rfl rfl fun _ => ?_
  exact ⟨not_contains_iff.2 (by simp [namedKinds, *]), rfl⟩

theorem decodeSackLength_encodedAs (l : BitVec 8) :
    (decodeSackLength l).EncodedAs cfg (.sacklen l) := by
  unfold decodeSackLength
  iterate 4 refine encodedAs_exact rfl rfl fun _ => ?_
  exact ⟨not_contains_iff.2 (by simp [*]), rfl⟩

/-- A label byte is its two top bits and the rest (R126). -/
theorem labelByte_eq_of_top {b : BitVec 8} {top : BitVec 2} (h : b.extractLsb' 6 2 = top) :
    top ++ b.extractLsb' 0 6 = b := by
  rw [← h]
  exact BitVec.extractLsb'_append_extractLsb' (w := 2)

/-- The pairs of top bits other than 0, 3 and 1 are the last reserved one (R141). -/
theorem top_eq_two : ∀ top : BitVec 2, top ≠ 0#2 → top ≠ 3#2 → top ≠ 1#2 → top = 2#2 := by decide

theorem decodeLabelByte_encodedAs (b : BitVec 8) :
    (decodeLabelByte b).EncodedAs cfg (.dnslabel b) := by
  unfold decodeLabelByte
  refine encodedAs_exact rfl rfl fun hterm => ?_
  refine encodedAs_ite (fun h0 => ?_) fun h0 => encodedAs_ite (fun h3 => ?_) fun h3 =>
    encodedAs_ite (fun h1 => ?_) fun h1 => ?_
  · refine ⟨bne_iff_ne.2 fun hlow => hterm ?_, congrArg _ (labelByte_eq_of_top h0)⟩
    rw [← labelByte_eq_of_top h0, hlow]
    rfl
  · exact ⟨rfl, congrArg _ (labelByte_eq_of_top h3)⟩
  · exact ⟨rfl, congrArg _ (labelByte_eq_of_top h1)⟩
  · exact ⟨rfl, congrArg _ (labelByte_eq_of_top (top_eq_two _ h0 h3 h1))⟩

theorem decodeRecordType_encodedAs (c : BitVec 32) :
    (decodeRecordType c).EncodedAs cfg (.dnsrr c) := by
  unfold decodeRecordType
  iterate 3 refine encodedAs_exact rfl rfl fun _ => ?_
  exact ⟨not_contains_iff.2 (by simp [*]), rfl⟩

theorem decodeArpOperation_encodedAs (o : BitVec 16) :
    (decodeArpOperation o).EncodedAs cfg (.arpop o) := by
  unfold decodeArpOperation
  refine encodedAs_exact rfl rfl fun h => encodedAs_exact rfl rfl fun h' => ?_
  exact ⟨bne_and_bne_iff.2 ⟨h, h'⟩, rfl⟩

/-- A listed row of `IGMPTYPE` is well formed when no earlier row has its code. -/
theorem decodeIgmpType_encodedAs (t : BitVec 8) :
    (decodeIgmpType cfg t).EncodedAs cfg (.igmptype t) := by
  unfold decodeIgmpType
  refine encodedAs_exact rfl rfl fun hquery => ?_
  refine encodedAs_ite (fun h => ?_) fun hv1 => encodedAs_ite (fun h => ?_) fun hv2 =>
    encodedAs_ite (fun h => ?_) fun hleave => encodedAs_ite (fun h => ?_) fun hv3 => ?_
  · exact encodedAs_of_eq (not_contains_iff.2 (by simp [IgmpTable.codes, ← h, hquery])) rfl h
  · exact encodedAs_of_eq (not_contains_iff.2 (by simp [IgmpTable.codes, ← h, hquery, hv1])) rfl h
  · exact encodedAs_of_eq
      (not_contains_iff.2 (by simp [IgmpTable.codes, ← h, hquery, hv1, hv2])) rfl h
  · exact encodedAs_of_eq
      (not_contains_iff.2 (by simp [IgmpTable.codes, ← h, hquery, hv1, hv2, hleave])) rfl h
  · exact ⟨not_contains_iff.2 (by simp [IgmpTable.codes, hquery, hv1, hv2, hleave, hv3]), rfl⟩

/-- A port code is the source port and the destination port (R305). -/
theorem portCode_halves (c : BitVec 32) : c.extractLsb' 16 16 ++ c.extractLsb' 0 16 = c :=
  BitVec.extractLsb'_append_extractLsb' (w := 16)

theorem decodePorts_encodedAs (c : BitVec 32) :
    (decodePorts cfg c).EncodedAs cfg (.udpport c) := by
  unfold decodePorts
  refine encodedAs_ite (fun hsrc => ?_) fun hsrc => encodedAs_ite (fun hdst => ?_) fun hdst => ?_
  · exact ⟨rfl, congrArg _ (hsrc ▸ portCode_halves c)⟩
  · exact ⟨bne_iff_ne.2 hsrc, congrArg _ (hdst ▸ portCode_halves c)⟩
  · exact ⟨bne_and_bne_iff.2 ⟨hsrc, hdst⟩, congrArg _ (portCode_halves c)⟩

theorem decodeClass_encodedAs {row : ClassRow} {f : BitVec 9} {i : Instr}
    (h : decodeClass row f = .ok i) : i.EncodedAs cfg (.tcpclass row f) := by
  obtain ⟨hholds, rfl⟩ := decodeClass_ok_iff.1 h
  exact ⟨(row.wf_instr cfg f).trans hholds, row.encode_instr cfg f⟩

/-- Settles O4: table by table, the selected row is well formed and has the selector's code. -/
theorem encodeOfDecode : Obligations.EncodeOfDecode := by
  unfold Obligations.EncodeOfDecode
  intro cfg sel i h
  cases sel with
  | tcpclass row flags => exact decodeClass_encodedAs cfg h
  | link c => cases h; exact decodeLinkCode_encodedAs cfg c
  | ethertype t => cases h; exact decodeEthertype_encodedAs cfg t
  | nullfam f => cases h; exact decodeNullFamily_encodedAs cfg f
  | llcsap p => cases h; exact decodeSap_encodedAs cfg p
  | ipproto p => cases h; exact decodeProtocol_encodedAs cfg p
  | tcpopt k => cases h; exact decodeOptionKind_encodedAs cfg k
  | sacklen l => cases h; exact decodeSackLength_encodedAs cfg l
  | dnslabel b => cases h; exact decodeLabelByte_encodedAs cfg b
  | dnsrr c => cases h; exact decodeRecordType_encodedAs cfg c
  | arpop o => cases h; exact decodeArpOperation_encodedAs cfg o
  | igmptype t => cases h; exact decodeIgmpType_encodedAs cfg t
  | udpport c => cases h; exact decodePorts_encodedAs cfg c

end

/-! ## From a row to its selector and back -/

section
variable {cfg : Config}

theorem decodeLinkCode_other {c : BitVec 3} (h : 5 ≤ c.toNat) : decodeLinkCode c = .ltOther c := by
  have hne : ∀ p : BitVec 3, p.toNat < 5 → c ≠ p := fun p hp hc => by subst hc; omega
  simp [decodeLinkCode, hne]

/-- A code that names no ethertype is read by its size (R135). -/
theorem decodeEthertype_unnamed {t : BitVec 16} (h : cfg.namesEthertype t = false) :
    decodeEthertype cfg t =
      if t.toNat < cfg.ethertypeMin then if t.toNat < 1024 then .etLenLo t else .etLenHi t
      else .etUnknown t := by
  obtain ⟨hipv4, harp, hipv6⟩ := (cfg.namesEthertype_eq_false_iff t).1 h
  rw [decodeEthertype, if_neg hipv4, if_neg harp, if_neg hipv6]

theorem decodeNullFamily_other {f : BitVec 8} (h : ∀ p ∈ [2#8, 24#8, 28#8, 30#8], f ≠ p) :
    decodeNullFamily f = .nfOther f := by
  simp_all [decodeNullFamily]

theorem decodeProtocol_unknown {p : BitVec 8} (h : ∀ q ∈ namedProtocols, p ≠ q) :
    decodeProtocol p = .pUnknown p := by
  simp_all [decodeProtocol, namedProtocols]

theorem decodeOptionKind_bad {k : BitVec 8} (h : ∀ p ∈ namedKinds, k ≠ p) :
    decodeOptionKind k = .optBad k := by
  simp_all [decodeOptionKind, namedKinds]

theorem decodeSackLength_bad {l : BitVec 8} (h : ∀ p ∈ [10#8, 18#8, 26#8, 34#8], l ≠ p) :
    decodeSackLength l = .sackBad l := by
  simp_all [decodeSackLength]

theorem decodeRecordType_other {c : BitVec 32}
    (h : ∀ p ∈ [0x00010001#32, 0x00020001#32, 0x001C0001#32], c ≠ p) :
    decodeRecordType c = .rrOther c := by
  simp_all [decodeRecordType]

section
variable (cfg : Config)

/-- A listed type code selects its row when no earlier row has it (R144). -/
theorem decodeIgmpType_listed :
    decodeIgmpType cfg cfg.igmpVersionTable.query.code = .igmpQuery ∧
    ((∀ p ∈ cfg.igmpVersionTable.codes.take 1, cfg.igmpVersionTable.v1Report.code ≠ p) →
      decodeIgmpType cfg cfg.igmpVersionTable.v1Report.code = .igmpV1Report) ∧
    ((∀ p ∈ cfg.igmpVersionTable.codes.take 2, cfg.igmpVersionTable.v2Report.code ≠ p) →
      decodeIgmpType cfg cfg.igmpVersionTable.v2Report.code = .igmpV2Report) ∧
    ((∀ p ∈ cfg.igmpVersionTable.codes.take 3, cfg.igmpVersionTable.leave.code ≠ p) →
      decodeIgmpType cfg cfg.igmpVersionTable.leave.code = .igmpLeave) ∧
    ((∀ p ∈ cfg.igmpVersionTable.codes.take 4, cfg.igmpVersionTable.v3Report.code ≠ p) →
      decodeIgmpType cfg cfg.igmpVersionTable.v3Report.code = .igmpV3Report) := by
  refine ⟨if_pos rfl, fun h => ?_, fun h => ?_, fun h => ?_, fun h => ?_⟩
  all_goals simp_all [decodeIgmpType, IgmpTable.codes]

theorem decodeIgmpType_other {t : BitVec 8} (h : ∀ p ∈ cfg.igmpVersionTable.codes, t ≠ p) :
    decodeIgmpType cfg t = .igmpOther t := by
  simp_all [decodeIgmpType, IgmpTable.codes]

end

/-- A byte with the two top bits `top` is read by them (R126, R141). -/
theorem decodeLabelByte_append {top : BitVec 2} {low : BitVec 6} (h : ¬(top = 0#2 ∧ low = 0#6)) :
    decodeLabelByte (top ++ low) =
      if top = 0#2 then .dnsLabel low else if top = 3#2 then .dnsPtr low
      else if top = 1#2 then .dnsRsv01 low else .dnsRsv10 low := by
  have htop : (top ++ low).extractLsb' 6 2 = top := BitVec.extractLsb'_append_eq_left
  have hlow : (top ++ low).extractLsb' 0 6 = low := BitVec.extractLsb'_append_eq_right
  have hne : top ++ low ≠ 0#8 := fun h0 => h ⟨by rw [← htop, h0]; rfl, by rw [← hlow, h0]; rfl⟩
  rw [decodeLabelByte, if_neg hne, htop, hlow]

/-- A port code is read by its two ports (R145). -/
theorem decodePorts_append (src dst : BitVec 16) :
    decodePorts cfg (src ++ dst) =
      if src = cfg.dnsPort then .udpDnsSrc dst else if dst = cfg.dnsPort then .udpDnsDst src
      else .udpPlain src dst := by
  have hsrc : (src ++ dst).extractLsb' 16 16 = src := BitVec.extractLsb'_append_eq_left
  have hdst : (src ++ dst).extractLsb' 0 16 = dst := BitVec.extractLsb'_append_eq_right
  rw [decodePorts, hsrc, hdst]

theorem decodeClass_instr {row : ClassRow} {f : BitVec 9} (h : row.holds f = true) :
    decodeClass row f = .ok (row.instr f) := decodeClass_ok_iff.2 ⟨h, rfl⟩

/-- Settles O3: a row with an exact code is read back by computation; the others fail the tests of
the rows before them, because they are well formed. -/
theorem decodeOfEncode : Obligations.DecodeOfEncode := by
  unfold Obligations.DecodeOfEncode
  intro cfg i h
  obtain ⟨hquery, hv1, hv2, hleave, hv3⟩ := decodeIgmpType_listed cfg
  cases i with
  | ltOther c => exact congrArg _ (decodeLinkCode_other (of_decide_eq_true h))
  | etIpv4 => exact congrArg _ (if_pos rfl)
  | etArp => exact congrArg _ ((if_neg (bne_iff_ne.1 h)).trans (if_pos rfl))
  | etIpv6 =>
    obtain ⟨hipv4, harp⟩ := bne_and_bne_iff.1 h
    exact congrArg _ ((if_neg hipv4).trans ((if_neg harp).trans (if_pos rfl)))
  | etLenLo c =>
    obtain ⟨hunnamed, hlen, hlo⟩ := wf_etLenLo_iff.1 h
    exact congrArg _ ((decodeEthertype_unnamed hunnamed).trans ((if_pos hlen).trans (if_pos hlo)))
  | etLenHi c =>
    obtain ⟨hunnamed, hlen, hhi⟩ := wf_etLenHi_iff.1 h
    exact congrArg _
      ((decodeEthertype_unnamed hunnamed).trans ((if_pos hlen).trans (if_neg (Nat.not_lt.2 hhi))))
  | etUnknown c =>
    obtain ⟨hunnamed, hlong⟩ := wf_etUnknown_iff.1 h
    exact congrArg _ ((decodeEthertype_unnamed hunnamed).trans (if_neg (Nat.not_lt.2 hlong)))
  | nfOther f => exact congrArg _ (decodeNullFamily_other (not_contains_iff.1 h))
  | llcBad p =>
    obtain ⟨hsnap, hbasic⟩ := bne_and_bne_iff.1 h
    exact congrArg _ ((if_neg hsnap).trans (if_neg hbasic))
  | pUnknown p => exact congrArg _ (decodeProtocol_unknown (not_contains_iff.1 h))
  | optBad k => exact congrArg _ (decodeOptionKind_bad (not_contains_iff.1 h))
  | sackBad l => exact congrArg _ (decodeSackLength_bad (not_contains_iff.1 h))
  | dnsLabel n =>
    exact congrArg _ (decodeLabelByte_append fun hzero => bne_iff_ne.1 h hzero.2)
  | dnsPtr n => exact congrArg _ (decodeLabelByte_append (top := 3#2) (by simp))
  | dnsRsv01 n => exact congrArg _ (decodeLabelByte_append (top := 1#2) (by simp))
  | dnsRsv10 n => exact congrArg _ (decodeLabelByte_append (top := 2#2) (by simp))
  | rrOther c => exact congrArg _ (decodeRecordType_other (not_contains_iff.1 h))
  | arpUnknown o =>
    obtain ⟨hrequest, hreply⟩ := bne_and_bne_iff.1 h
    exact congrArg _ ((if_neg hrequest).trans (if_neg hreply))
  | igmpQuery => exact congrArg _ hquery
  | igmpV1Report => exact congrArg _ (hv1 (not_contains_iff.1 h))
  | igmpV2Report => exact congrArg _ (hv2 (not_contains_iff.1 h))
  | igmpLeave => exact congrArg _ (hleave (not_contains_iff.1 h))
  | igmpV3Report => exact congrArg _ (hv3 (not_contains_iff.1 h))
  | igmpOther t => exact congrArg _ (decodeIgmpType_other cfg (not_contains_iff.1 h))
  | udpDnsSrc dst => exact congrArg _ ((decodePorts_append _ _).trans (if_pos rfl))
  | udpDnsDst src =>
    exact congrArg _
      ((decodePorts_append _ _).trans ((if_neg (bne_iff_ne.1 h)).trans (if_pos rfl)))
  | udpPlain src dst =>
    obtain ⟨hsrc, hdst⟩ := bne_and_bne_iff.1 h
    exact congrArg _ ((decodePorts_append _ _).trans ((if_neg hsrc).trans (if_neg hdst)))
  | segSynNoAck f => exact decodeClass_instr (row := .synNoAck) h
  | segSynAck f => exact decodeClass_instr (row := .synAck) h
  | segAck f => exact decodeClass_instr (row := .ack) h
  | segFin f => exact decodeClass_instr (row := .fin) h
  | _ => rfl

end

/-! ## The first row that matches -/

/-- The rows of each table, in its order (R133). -/
def Table.rows : Table → List Row
  | .link => rowsLink
  | .ethertype => rowsEthertype
  | .nullfam => rowsNullfam
  | .llcsap => rowsLlcsap
  | .ipproto => rowsIpproto
  | .tcpopt => rowsTcpopt
  | .sacklen => rowsSacklen
  | .dnslabel => rowsDnslabel
  | .dnsrr => rowsDnsrr
  | .arpop => rowsArpop
  | .igmptype => rowsIgmptype
  | .udpport => rowsUdpport
  | .tcpclass => rowsTcpclass

/-- The first row of a list that matches a code is the row of an instruction (R133). -/
def Instr.FirstIn (rows : List Row) (c : Nat) (i : Instr) : Prop :=
  (rows.find? (fun r => r.hits c)).map Row.mnemonic = some i.mnemonic

theorem firstRow_of_firstIn {t : Table} {c : Nat} {i : Instr} (h : i.FirstIn t.rows c) :
    firstRow t c = some i.mnemonic := by
  have hrows : opcodeRows.filter (fun r => r.table == t) = t.rows := by cases t <;> rfl
  rw [firstRow, hrows]
  exact h

/-- A mask of `n` bits from bit `k` on keeps that field of a number. -/
theorem and_fieldMask (c k n : Nat) : c &&& ((2 ^ n - 1) * 2 ^ k) = c / 2 ^ k % 2 ^ n * 2 ^ k := by
  refine Nat.eq_of_testBit_eq fun b => ?_
  simp only [Nat.testBit_and, Nat.testBit_mul_two_pow, Nat.testBit_two_pow_sub_one,
    Nat.testBit_mod_two_pow, Nat.testBit_div_two_pow]
  by_cases hb : k ≤ b
  · simp [hb, Bool.and_comm]
  · simp [hb]

section
variable {w : Nat} {c : BitVec w} {t : Table} {m : String} {mask pattern : Nat} {rest : List Row}
  {i j : Instr}

/-- A field of a code, as a number. -/
theorem extractLsb'_eq_iff {k n : Nat} {p : BitVec n} :
    c.extractLsb' k n = p ↔ c.toNat / 2 ^ k % 2 ^ n = p.toNat := by
  rw [← BitVec.toNat_inj, BitVec.extractLsb'_toNat, Nat.shiftRight_eq_div_pow]

/-- A row that fixes the `n` bits of a code from bit `k` on matches the codes with that field. -/
theorem hits_field_iff {k n : Nat} {p : BitVec n} (hmask : mask = (2 ^ n - 1) * 2 ^ k)
    (hpattern : pattern = p.toNat * 2 ^ k) :
    Row.hits ⟨t, m, mask, pattern⟩ c.toNat = true ↔ c.extractLsb' k n = p := by
  rw [Row.hits, hmask, hpattern, beq_iff_eq, and_fieldMask, Nat.mul_left_inj (by positivity),
    extractLsb'_eq_iff]

/-- A row that matches is taken (R133). -/
theorem firstIn_of_hits {r : Row} {c : Nat} (hits : r.hits c = true)
    (hname : r.mnemonic = i.mnemonic) : i.FirstIn (r :: rest) c := by
  simp [Instr.FirstIn, hits, hname]

/-- A row is taken when it matches, and else the rows after it are tried (R133). -/
theorem firstIn_ite {q : Prop} [Decidable q] {r : Row} {c : Nat} (hits : r.hits c = true ↔ q)
    (hname : r.mnemonic = i.mnemonic) (hj : ¬q → j.FirstIn rest c) :
    (if q then i else j).FirstIn (r :: rest) c := by
  split
  · next h => exact firstIn_of_hits (hits.2 h) hname
  · next h =>
    have hmiss : r.hits c = false := by simpa using mt hits.1 h
    simpa [Instr.FirstIn, hmiss] using hj h

/-- A row that fixes every bit of a code. -/
theorem firstIn_exact {p : BitVec w} (hmask : mask = 2 ^ w - 1) (hpattern : pattern = p.toNat)
    (hname : m = i.mnemonic) (hj : ¬c = p → j.FirstIn rest c.toNat) :
    (if c = p then i else j).FirstIn (⟨t, m, mask, pattern⟩ :: rest) c.toNat := by
  refine firstIn_ite ?_ hname hj
  rw [hits_field_iff (k := 0) (n := w) (p := p) (by simp [hmask]) (by simp [hpattern]),
    BitVec.extractLsb'_eq_self]

/-- A row that fixes no bit matches every code. -/
theorem firstIn_any {c : Nat} (hname : m = i.mnemonic) : i.FirstIn (⟨t, m, 0, 0⟩ :: rest) c := by
  exact firstIn_of_hits (beq_iff_eq.2 (Nat.and_zero c)) hname

end

theorem decodeLinkCode_firstIn (c : BitVec 3) : (decodeLinkCode c).FirstIn rowsLink c.toNat := by
  unfold decodeLinkCode
  iterate 5 refine firstIn_exact rfl rfl rfl fun _ => ?_
  exact firstIn_any rfl

/-- Under the default `ETHERTYPE_MIN` the length rows are those of their masks: six and seven high
bits (R135). -/
theorem decodeEthertype_firstIn (t : BitVec 16) :
    (decodeEthertype Config.standard t).FirstIn rowsEthertype t.toNat := by
  have hlo : t.extractLsb' 10 6 = 0#6 ↔ t.toNat < 1024 := by
    have hlt := t.isLt
    rw [extractLsb'_eq_iff, BitVec.toNat_ofNat]
    omega
  have hhi : t.extractLsb' 9 7 = 2#7 ↔ 1024 ≤ t.toNat ∧ t.toNat < 1536 := by
    have hlt := t.isLt
    rw [extractLsb'_eq_iff, BitVec.toNat_ofNat]
    omega
  have hsplit : (if t.toNat < Config.standard.ethertypeMin then
        if t.toNat < 1024 then Instr.etLenLo t else .etLenHi t else .etUnknown t) =
      if t.toNat < 1024 then .etLenLo t
      else if 1024 ≤ t.toNat ∧ t.toNat < 1536 then .etLenHi t else .etUnknown t := by
    have hmin : Config.standard.ethertypeMin = 1536 := rfl
    by_cases hlt : t.toNat < 1024
    · have hlen : t.toNat < 1536 := by omega
      simp [hmin, hlt, hlen]
    · simp [hmin, hlt, Nat.not_lt.1 hlt]
  rw [decodeEthertype, hsplit]
  iterate 3 refine firstIn_exact rfl rfl rfl fun _ => ?_
  refine firstIn_ite ((hits_field_iff rfl rfl).trans hlo) rfl fun _ => ?_
  refine firstIn_ite ((hits_field_iff rfl rfl).trans hhi) rfl fun _ => ?_
  exact firstIn_any rfl

theorem decodeNullFamily_firstIn (f : BitVec 8) :
    (decodeNullFamily f).FirstIn rowsNullfam f.toNat := by
  unfold decodeNullFamily
  iterate 4 refine firstIn_exact rfl rfl rfl fun _ => ?_
  exact firstIn_any rfl

theorem decodeSap_firstIn (p : BitVec 16) : (decodeSap p).FirstIn rowsLlcsap p.toNat := by
  unfold decodeSap
  iterate 2 refine firstIn_exact rfl rfl rfl fun _ => ?_
  exact firstIn_any rfl

theorem decodeProtocol_firstIn (p : BitVec 8) : (decodeProtocol p).FirstIn rowsIpproto p.toNat := by
  unfold decodeProtocol
  iterate 14 refine firstIn_exact rfl rfl rfl fun _ => ?_
  exact firstIn_any rfl

theorem decodeOptionKind_firstIn (k : BitVec 8) :
    (decodeOptionKind k).FirstIn rowsTcpopt k.toNat := by
  unfold decodeOptionKind
  iterate 9 refine firstIn_exact rfl rfl rfl fun _ => ?_
  exact firstIn_any rfl

theorem decodeSackLength_firstIn (l : BitVec 8) :
    (decodeSackLength l).FirstIn rowsSacklen l.toNat := by
  unfold decodeSackLength
  iterate 4 refine firstIn_exact rfl rfl rfl fun _ => ?_
  exact firstIn_any rfl

/-- The two top bits of a label byte select the row, and every pair of them has one (R141). -/
theorem decodeLabelByte_firstIn (b : BitVec 8) :
    (decodeLabelByte b).FirstIn rowsDnslabel b.toNat := by
  unfold decodeLabelByte
  refine firstIn_exact rfl rfl rfl fun _ => ?_
  refine firstIn_ite (hits_field_iff rfl rfl) rfl fun h0 => ?_
  refine firstIn_ite (hits_field_iff rfl rfl) rfl fun h3 => ?_
  refine firstIn_ite (hits_field_iff rfl rfl) rfl fun h1 => ?_
  exact firstIn_of_hits ((hits_field_iff rfl rfl).2 (top_eq_two _ h0 h3 h1)) rfl

theorem decodeRecordType_firstIn (c : BitVec 32) :
    (decodeRecordType c).FirstIn rowsDnsrr c.toNat := by
  unfold decodeRecordType
  iterate 3 refine firstIn_exact rfl rfl rfl fun _ => ?_
  exact firstIn_any rfl

theorem decodeArpOperation_firstIn (o : BitVec 16) :
    (decodeArpOperation o).FirstIn rowsArpop o.toNat := by
  unfold decodeArpOperation
  iterate 2 refine firstIn_exact rfl rfl rfl fun _ => ?_
  exact firstIn_any rfl

theorem decodeIgmpType_firstIn (t : BitVec 8) :
    (decodeIgmpType Config.standard t).FirstIn rowsIgmptype t.toNat := by
  unfold decodeIgmpType
  iterate 5 refine firstIn_exact rfl rfl rfl fun _ => ?_
  exact firstIn_any rfl

/-- The rows of the port table each fix one half of the code (R145). -/
theorem decodePorts_firstIn (c : BitVec 32) :
    (decodePorts Config.standard c).FirstIn rowsUdpport c.toNat := by
  unfold decodePorts
  refine firstIn_ite (hits_field_iff rfl rfl) rfl fun _ => ?_
  refine firstIn_ite (hits_field_iff rfl rfl) rfl fun _ => ?_
  exact firstIn_any rfl

/-- Under the default parameters a selector's row is the first of its table that matches (R133). -/
theorem firstRow_of_decode {sel : Selector} {i : Instr} (hsel : sel.table ≠ .tcpclass)
    (h : decode Config.standard sel = .ok i) : firstRow sel.table sel.code = some i.mnemonic := by
  refine firstRow_of_firstIn ?_
  cases sel with
  | tcpclass => exact absurd rfl hsel
  | link c => cases h; exact decodeLinkCode_firstIn c
  | ethertype t => cases h; exact decodeEthertype_firstIn t
  | nullfam f => cases h; exact decodeNullFamily_firstIn f
  | llcsap p => cases h; exact decodeSap_firstIn p
  | ipproto p => cases h; exact decodeProtocol_firstIn p
  | tcpopt k => cases h; exact decodeOptionKind_firstIn k
  | sacklen l => cases h; exact decodeSackLength_firstIn l
  | dnslabel b => cases h; exact decodeLabelByte_firstIn b
  | dnsrr c => cases h; exact decodeRecordType_firstIn c
  | arpop o => cases h; exact decodeArpOperation_firstIn o
  | igmptype t => cases h; exact decodeIgmpType_firstIn t
  | udpport c => cases h; exact decodePorts_firstIn c

/-- The row of the opcode table that a row of `TCPCLASS` is (R146). -/
def ClassRow.row : ClassRow → Row
  | .synNoAck => ⟨.tcpclass, "SEG_SYN_NOACK", 0x012, 0x002⟩
  | .synAck => ⟨.tcpclass, "SEG_SYN_ACK", 0x012, 0x012⟩
  | .ack => ⟨.tcpclass, "SEG_ACK", 0x010, 0x010⟩
  | .fin => ⟨.tcpclass, "SEG_FIN", 0x001, 0x001⟩

theorem ClassRow.row_mem (r : ClassRow) : r.row ∈ opcodeRows := by cases r <;> decide

/-- A row of `TCPCLASS` holds on the flag words that its mask and pattern match (R146). -/
theorem ClassRow.hits_row (r : ClassRow) (f : BitVec 9) : r.row.hits f.toNat = r.holds f := by
  have hits_iff : ∀ mask pattern : BitVec 9,
      ((f.toNat &&& mask.toNat) == pattern.toNat) = (f &&& mask == pattern) := by
    intro mask pattern
    rw [Bool.eq_iff_iff, beq_iff_eq, beq_iff_eq, ← BitVec.toNat_inj, BitVec.toNat_and]
  cases r with
  | synNoAck => exact hits_iff 0x012#9 0x002#9
  | synAck => exact hits_iff 0x012#9 0x012#9
  | ack => exact hits_iff 0x010#9 0x010#9
  | fin => exact hits_iff 0x001#9 0x001#9

/-- Settles O5: table by table, the chain of tests of the decoder is the search for the first row
that matches. -/
theorem firstMatchingRow : Obligations.FirstMatchingRow := by
  unfold Obligations.FirstMatchingRow
  refine ⟨fun cfg sel hsel => ?_, fun sel i hsel h => firstRow_of_decode hsel h,
    fun row f => ⟨⟨fun ⟨i, h⟩ => (decodeClass_ok_iff.1 h).1, fun h => ⟨_, decodeClass_instr h⟩⟩,
      fun i h => ?_⟩⟩
  · obtain ⟨i, hi, -⟩ := Machine.decode_parserRow cfg sel hsel
    exact ⟨i, hi⟩
  · obtain ⟨hholds, rfl⟩ := decodeClass_ok_iff.1 h
    exact ⟨row.row, row.row_mem, by cases row <;> rfl, by cases row <;> rfl,
      (row.hits_row f).trans hholds⟩

/-- Settles O2: each code is decoded by computation. -/
theorem decodedCodes : Obligations.DecodedCodes := by
  unfold Obligations.DecodedCodes
  decide

end Sys2Proof
end

section
/-! SUPPORT. The step runs the row that is selected (R177), and what four groups of rows do: the
SACK pairs, Ethernet, the IGMP versions and the illegal codes. -/

namespace Sys2Proof

/-- The version column of the parameter table at a type code: the first listed row with the code
(R144). -/
def IgmpTable.versionOf (t : IgmpTable) (c : Byte) : Option IgmpVersion :=
  if c = t.query.code then some t.query.version
  else if c = t.v1Report.code then some t.v1Report.version
  else if c = t.v2Report.code then some t.v2Report.version
  else if c = t.leave.code then some t.leave.version
  else if c = t.v3Report.code then some t.v3Report.version
  else none

end Sys2Proof

namespace Sys2Proof.Machine

/-! ## The row that a step runs -/

/-- The row that `SEL` selects is run (R133). -/
theorem fetchRow_outcome {s : State} {i : Instr} (h : decode s.cfg s.ctx.sel = .ok i) :
    (fetchRow s).outcome = exec i s := by simp only [fetchRow, h, Fetched.outcome]

theorem fetchOption_outcome {s : State} {i : Instr} (hin : s.work.cur < s.ctx.optend)
    (hr : s.readable s.work.cur 1 = true) (h : decode s.cfg (.tcpopt (s.u8 s.work.cur)) = .ok i) :
    (fetchOption s).outcome = exec i (s.look (.tcpopt (s.u8 s.work.cur))) := by
  rw [fetchOption, if_pos hin, if_pos hr]
  exact fetchRow_outcome h

theorem fetchLabel_outcome {s : State} {i : Instr} (hr : s.dnsReadable s.work.dns.cur 1 = true)
    (h : decode s.cfg (.dnslabel (s.u8 s.work.dns.cur)) = .ok i) :
    (fetchLabel s).outcome = exec i (s.look (.dnslabel (s.u8 s.work.dns.cur))) := by
  rw [fetchLabel, if_pos hr]
  exact fetchRow_outcome h

theorem fetchClass_outcome {s : State} {o : Observation} {r : ClassRow} {i : Instr}
    (hobs : s.obs = some o) (hrow : o.row = some r)
    (h : decodeClass r o.seg.tcp.flags.word = .ok i) : (fetchClass s).outcome = exec i s := by
  simp only [fetchClass, hobs, hrow, h, Fetched.outcome]

/-- Settles O1: in each mode the step is the outcome of the mode's fetch. -/
theorem stepRunsDecodedRow : Obligations.StepRunsDecodedRow := by
  unfold Obligations.StepRunsDecodedRow
  intro s i
  refine ⟨fun hm h => ?_, fun hm hin hr h => ?_, fun hm hr h => ?_, fun hm o r hobs hrow h => ?_⟩
  all_goals rw [step_eq, fetch, hm]
  · exact fetchRow_outcome h
  · exact fetchOption_outcome hin hr h
  · exact fetchLabel_outcome hr h
  · exact fetchClass_outcome hobs hrow h

/-! ## The SACK pairs -/

/-- Readable pairs are handed on, each a left and a right edge (R300). -/
theorem sackPairs_ok {s : State} {n : Nat} (a : Nat) (k : List (U32 × U32) → Out)
    (hr : n = 0 ∨ s.readable a (8 * n) = true) :
    sackPairs s a n k =
      k ((List.range n).map fun j => (s.u32 (a + 8 * j), s.u32 (a + 4 + 8 * j))) := by
  induction n generalizing a k with
  | zero => rfl
  | succ n ih =>
    have hread : s.readable a (8 * (n + 1)) = true := hr.resolve_left (by omega)
    have hrest : s.readable (a + 8) (8 * n) = true := readable_sub s hread (by omega)
    have hoff : ∀ b j, b + 8 + 8 * j = b + 8 * (j + 1) := fun b j => by omega
    rw [sackPairs, rd32_ok s a _ (readable_sub s hread (by omega)),
      rd32_ok s (a + 4) _ (readable_sub s hread (by omega)), ih _ _ (.inr hrest)]
    simp [List.range_succ_eq_map, Function.comp_def, hoff]

/-- The loop goes on after a SACK option with its pairs (R300), or the option runs past the area. -/
theorem sackBlocks_eq {s : State} {n : Nat} (hr : s.readable s.work.cur (8 * n + 2) = true) :
    sackBlocks s n =
      if s.ctx.optend < s.work.cur + (8 * n + 2) then
        .next (s.raised .tcpOptionBadLength s.work.cur)
      else .next (s.optionDone
        { s.work.tcp.options with
          sack := some ((List.range n).map fun j =>
            (s.u32 (s.work.cur + 2 + 8 * j), s.u32 (s.work.cur + 6 + 8 * j))) }
        (s.work.cur + (8 * n + 2))) := by
  split
  · next hpast => exact fits_past hpast _
  · next hfits =>
    exact (fits_ok (Nat.not_lt.1 hfits) _).trans
      (sackPairs_ok _ _ (.inr (readable_sub s hr (by omega))))

/-- Settles O27: the four rows are the SACK option of one to four pairs. -/
theorem sackResult : Obligations.SackResult := by
  unfold Obligations.SackResult
  intro s i outcome
  exact ⟨fun hr => sackBlocks_eq (n := 1) hr, fun hr => sackBlocks_eq (n := 2) hr,
    fun hr => sackBlocks_eq (n := 3) hr, fun hr => sackBlocks_eq (n := 4) hr⟩

/-! ## Ethernet -/

section
variable {s : State} {o : Nat} (hdepth : Config.tooDeep s.cfg (s.ctx.depth + 1) = false)
include hdepth

/-- A readable frame header without a tag is kept, and its ethertype is looked up (R190). -/
theorem decodeEthernet_untagged (hr : s.readable o 14 = true)
    (htag : s.u16 (o + 12) ≠ s.cfg.vlanTpid) :
    decodeEthernet s o = .next (((s.entered o).setLink (.ethernet
      { dst := s.bytes o 6, src := s.bytes (o + 6) 6, vlan := none
        ethertype := s.u16 (o + 12) })).dispatchEther (s.u16 (o + 12)) (o + 14)) := by
  have hin : ∀ a n, a + n ≤ o + 14 → (s.entered o).readable a n = true := fun a n h =>
    readable_sub s hr h
  have htag' : (s.entered o).u16 (o + 12) ≠ (s.entered o).cfg.vlanTpid := htag
  rw [decodeEthernet, enter_ok s o _ hdepth, rdBytes_ok _ _ _ _ (hin _ 6 (by omega)),
    rdBytes_ok _ _ _ _ (hin _ 6 (by omega)), rd16_ok _ _ _ (hin _ 2 (by omega)), if_neg htag']
  rfl

/-- A readable frame header with a tag is kept with the tag, and the ethertype after it is looked up
(R191). -/
theorem decodeEthernet_tagged (hr : s.readable o 18 = true)
    (htag : s.u16 (o + 12) = s.cfg.vlanTpid) :
    decodeEthernet s o = .next (((s.entered o).setLink (.ethernet
      { dst := s.bytes o 6, src := s.bytes (o + 6) 6, vlan := some (vlanTag (s.u16 (o + 14)))
        ethertype := s.u16 (o + 16) })).dispatchEther (s.u16 (o + 16)) (o + 18)) := by
  have hin : ∀ a n, a + n ≤ o + 18 → (s.entered o).readable a n = true := fun a n h =>
    readable_sub s hr h
  have htag' : (s.entered o).u16 (o + 12) = (s.entered o).cfg.vlanTpid := htag
  rw [decodeEthernet, enter_ok s o _ hdepth, rdBytes_ok _ _ _ _ (hin _ 6 (by omega)),
    rdBytes_ok _ _ _ _ (hin _ 6 (by omega)), rd16_ok _ _ _ (hin _ 2 (by omega)), if_pos htag',
    rd16_ok _ _ _ (hin _ 2 (by omega)), rd16_ok _ _ _ (hin _ 2 (by omega))]
  rfl

end

/-- Settles O15: the row decodes the frame header at offset 0. -/
theorem ethernetResult : Obligations.EthernetResult := by
  unfold Obligations.EthernetResult
  intro s hdepth
  exact ⟨fun hr htag => decodeEthernet_untagged (o := 0) hdepth hr htag,
    fun hr htag => decodeEthernet_tagged (o := 0) hdepth hr htag⟩

/-! ## The IGMP versions -/

/-- The row that a type code selects gives the version of that code (R309). -/
theorem exec_decodeIgmpType (s : State) (c : Byte) :
    exec (decodeIgmpType s.cfg c) s =
      .next (s.finishIgmp (s.cfg.igmpVersionTable.versionOf c)) := by
  simp only [decodeIgmpType, IgmpTable.versionOf, apply_ite (exec · s), apply_ite s.finishIgmp,
    apply_ite (Host.Outcome.next (φ := Fault) (ρ := Refusal))]
  rfl

/-- Settles O24: each row finishes the record with its version, and under the default parameters the
version of a code is the one that R309 lists. -/
theorem igmpVersions : Obligations.IgmpVersions := by
  unfold Obligations.IgmpVersions
  refine ⟨fun s => ⟨rfl, rfl, rfl, rfl, rfl, fun _ => rfl⟩, fun s c i hcfg h => ?_⟩
  cases h
  have hversion : s.cfg.igmpVersionTable.versionOf c = IgmpTable.standard.versionOf c := by
    rw [hcfg]
    rfl
  rw [exec_decodeIgmpType, hversion]
  rfl

/-! ## The illegal codes -/

/-- Settles O36: each row raises its fatal error, and the raised state is the one written out. -/
theorem fatalRows : Obligations.FatalRows := by
  unfold Obligations.FatalRows
  intro s fatal
  exact ⟨fun _ => rfl, fun _ => rfl, fun _ => rfl, fun _ => rfl, fun _ => rfl, fun _ => rfl,
    fun _ => rfl, fun _ => rfl, fun _ => rfl, fun _ => rfl⟩

end Sys2Proof.Machine
end

section
/-! SUPPORT. The depth limit of the header rows (R176, R474). -/

namespace Sys2Proof.Machine

/-- A packet without a link-layer header has that recorded before its IPv4 header is entered (R174);
recording it in the entered state answers the same, since a raise discards the record. -/
theorem enter_setLink (s : State) (h : LinkHdr) (o : Nat) (k : State → Out) :
    enter (s.setLink h) o k = enter s o fun t => k (t.setLink h) := rfl

/-- Every header row is a call of `enter()` at the start of its header, and whatever else it does comes
after that call (R176). Each case is the defining equation of the row's decoder. -/
theorem exec_eq_enter {i : Instr} {s : State} (hi : isHeaderRow i = true) :
    ∃ k, exec i s = enter s (headerStart i s) k := by
  cases i with
  | ltEthernet => exact ⟨_, decodeEthernet.eq_def s 0⟩
  | ltNull => exact ⟨_, decodeNull.eq_def s 0⟩
  | ltRawIpv4 =>
    exact ⟨_, (decodeIpv4.eq_def (s.setLink .raw) 0 _).trans (enter_setLink s .raw 0 _)⟩
  | ltLinuxSll => exact ⟨_, decodeSll.eq_def s 0⟩
  | ltLlc => exact ⟨_, decodeLlc.eq_def s 0⟩
  | etIpv4 | nfInet | pIpv4 => exact ⟨_, decodeIpv4.eq_def s _ _⟩
  | etIpv6 | nfInet6_24 | nfInet6_28 | nfInet6_30 | pIpv6 => exact ⟨_, decodeIpv6.eq_def s _ _⟩
  | etArp => exact ⟨_, decodeArp.eq_def s _⟩
  | pExt0 | pExt43 | pExt51 | pExt60 | pExt135 | pExt139 | pExt140 =>
    exact ⟨_, decodeExt.eq_def s _⟩
  | pTcp => exact ⟨_, decodeTcp.eq_def s _⟩
  | pUdp => exact ⟨_, decodeUdp.eq_def s _⟩
  | pIcmp => exact ⟨_, decodeIcmp.eq_def s _⟩
  | pIgmp => exact ⟨_, decodeIgmp.eq_def s _⟩
  | pNoNext => exact ⟨_, decodeNoNext.eq_def s _⟩
  | _ => cases hi

/-- Under a bound, the depths that are too deep are those past it (R474). -/
theorem tooDeep_bounded {cfg : Config} {n : Nat} (h : cfg.maxLayerDepth = some n) (depth : Nat) :
    Config.tooDeep cfg depth = true ↔ n < depth := by simp [Config.tooDeep, h]

/-- Settles O39: each header row enters its header first (`exec_eq_enter`), and entering past the bound
raises (`enter_deep`). -/
theorem depthLimit : Obligations.DepthLimit := by
  unfold Obligations.DepthLimit
  refine ⟨fun i s n hi hbound hpast => ?_, tooDeep_unbounded⟩
  obtain ⟨k, hk⟩ := exec_eq_enter (s := s) hi
  rw [hk]
  exact enter_deep s _ k ((tooDeep_bounded hbound _).2 hpast)

end Sys2Proof.Machine
end

section
/-! SUPPORT. The NULL, Linux SLL and LLC headers, an unknown ethertype, and the ARP message under their
rows (R197 to R204, R248, R249). -/

namespace Sys2Proof.Machine

/-- Settles O14: the two branches of `nullFamily`, whose name the model's function already has, and its
worked values. -/
theorem nullFamily_holds : Obligations.NullFamily := by
  unfold Obligations.NullFamily
  exact ⟨fun _ _ _ h => if_pos h, fun _ _ _ h => if_neg h, rfl, rfl, rfl, rfl, rfl⟩

/-! ## NULL and Linux SLL -/

/-- The first bytes of a byte string are the shorter byte string at the same address. -/
theorem Memory.take_slice (m : Memory) (a : Nat) {k n : Nat} (h : k ≤ n) :
    (m.slice a n).take k = m.slice a k := by
  induction n generalizing a k with
  | zero => rw [Nat.le_zero.1 h]; rfl
  | succ n ih =>
    cases k with
    | zero => rfl
    | succ k => exact congrArg _ (ih (a + 1) (Nat.le_of_succ_le_succ h))

/-- The address of an SLL header is read from the start of its eight-byte field (R132, R202). -/
theorem sllAddress_bytes (s : State) (a : Nat) (len : U16) :
    sllAddress len (s.bytes a 8) = s.bytes a (min len.toNat 8) :=
  Memory.take_slice _ a (Nat.min_le_right _ _)

section
variable {s : State} {o : Nat} (hdepth : Config.tooDeep s.cfg (s.ctx.depth + 1) = false)
include hdepth

/-- A readable NULL header is kept with its family, which is looked up (R203). -/
theorem decodeNull_ok (hr : s.readable o 4 = true) :
    decodeNull s o = .next (((s.entered o).setLink (.null
      { familyField := s.bytes o 4
        family := nullFamily (s.u8 o) (s.u8 (o + 1)) (s.u8 (o + 3)) })).jump
      (.nullfam (nullFamily (s.u8 o) (s.u8 (o + 1)) (s.u8 (o + 3)))) (o + 4)) := by
  have hin : (s.entered o).readable o 4 = true := hr
  rw [decodeNull, enter_ok s o _ hdepth, rdBytes_ok _ _ _ _ hin]
  rfl

/-- A readable SLL header is kept, and its ethertype is looked up (R202). -/
theorem decodeSll_ok (hr : s.readable o 16 = true) :
    decodeSll s o = .next (((s.entered o).setLink (.linuxCooked
      { packetType := s.u16 o, addressType := s.u16 (o + 2), addressLen := s.u16 (o + 4)
        address := s.bytes (o + 6) (min (s.u16 (o + 4)).toNat 8)
        ethertype := s.u16 (o + 14) })).dispatchEther (s.u16 (o + 14)) (o + 16)) := by
  have hin : ∀ a n, a + n ≤ o + 16 → (s.entered o).readable a n = true := fun a n h =>
    readable_sub s hr h
  rw [decodeSll, enter_ok s o _ hdepth, rd16_ok _ _ _ (hin _ 2 (by omega)),
    rd16_ok _ _ _ (hin _ 2 (by omega)), rd16_ok _ _ _ (hin _ 2 (by omega)),
    rdBytes_ok _ _ _ _ (hin _ 8 (by omega)), rd16_ok _ _ _ (hin _ 2 (by omega)),
    sllAddress_bytes]
  rfl

/-- A readable SAP pair is kept and looked up; the control byte and the ethertype are read after the
look-up (R198). -/
theorem decodeLlc_ok (hr : s.readable o 2 = true) :
    decodeLlc s o = .next (((s.entered o).setLink (.llc
      { dsap := s.u8 o, ssap := s.u8 (o + 1), control := 0#8, ethertype := 0#16 })).jump
      (.llcsap (sapCode (s.u8 o) (s.u8 (o + 1)))) (o + 8)) := by
  have hin : ∀ a n, a + n ≤ o + 2 → (s.entered o).readable a n = true := fun a n h =>
    readable_sub s hr h
  rw [decodeLlc, enter_ok s o _ hdepth, rd8_ok _ _ _ (hin _ 1 (by omega)),
    rd8_ok _ _ _ (hin _ 1 (by omega))]
  rfl

/-- A readable ARP message for six-byte hardware and four-byte protocol addresses is kept, and its
operation is looked up (R248). -/
theorem decodeArp_ok (hr : s.readable o 28 = true) (hhw : s.u8 (o + 4) = 6#8)
    (hproto : s.u8 (o + 5) = 4#8) :
    decodeArp s o = .next (((s.entered o).setWork
      { s.work with
        arp :=
          { hardwareType := s.u16 o, protocolType := s.u16 (o + 2), hlen := 6#8, plen := 4#8
            operation := s.u16 (o + 6), opClass := .unknown, senderHw := s.bytes (o + 8) 6
            senderProto := s.bytes (o + 14) 4, targetHw := s.bytes (o + 18) 6
            targetProto := s.bytes (o + 24) 4 } }).look (.arpop (s.u16 (o + 6)))) := by
  have hin : ∀ a n, a + n ≤ o + 28 → (s.entered o).readable a n = true := fun a n h =>
    readable_sub s hr h
  have hhw' : (s.entered o).u8 (o + 4) = 6#8 := hhw
  have hproto' : (s.entered o).u8 (o + 5) = 4#8 := hproto
  rw [decodeArp, enter_ok s o _ hdepth, rd16_ok _ _ _ (hin _ 2 (by omega)),
    rd16_ok _ _ _ (hin _ 2 (by omega)), rd8_ok _ _ _ (hin _ 1 (by omega)),
    rd8_ok _ _ _ (hin _ 1 (by omega)), rd16_ok _ _ _ (hin _ 2 (by omega)), hhw', hproto',
    if_neg (not_not.2 ⟨rfl, rfl⟩), rdBytes_ok _ _ _ _ (hin _ 6 (by omega)),
    rdBytes_ok _ _ _ _ (hin _ 4 (by omega)), rdBytes_ok _ _ _ _ (hin _ 6 (by omega)),
    rdBytes_ok _ _ _ _ (hin _ 4 (by omega))]
  rfl

end

/-- Settles O16: both rows decode their header at offset 0. -/
theorem nullAndSllResult : Obligations.NullAndSllResult := by
  unfold Obligations.NullAndSllResult
  intro s hdepth
  exact ⟨fun hr => decodeNull_ok (o := 0) hdepth hr, fun hr => decodeSll_ok (o := 0) hdepth hr⟩

/-! ## LLC and unknown ethertypes -/

/-- After a decodable SAP pair the header is completed by the control byte and the ethertype, which is
looked up; the three bytes between them are skipped (R198). -/
theorem llcRest_ok {s : State} (dsap ssap : Byte) (hr : s.readable s.ctx.off 8 = true) :
    llcRest s dsap ssap = .next ((s.setLink (.llc
      { dsap := dsap, ssap := ssap, control := s.u8 (s.ctx.off + 2)
        ethertype := s.u16 (s.ctx.off + 6) })).dispatchEther (s.u16 (s.ctx.off + 6))
          (s.ctx.off + 8)) := by
  rw [llcRest, rd8_ok s _ _ (readable_sub s hr (by omega)),
    rd16_ok s _ _ (readable_sub s hr (by omega))]

/-- Settles O17: the pair is read at offset 0 (`decodeLlc_ok`), and the two rows that go on read the rest
of the header (`llcRest_ok`); an unknown ethertype reads nothing. -/
theorem llcAndUnknownResult : Obligations.LlcAndUnknownResult := by
  unfold Obligations.LlcAndUnknownResult
  intro s
  exact ⟨fun hdepth hr => decodeLlc_ok (o := 0) hdepth hr,
    fun hr => ⟨llcRest_ok _ _ hr, llcRest_ok _ _ hr⟩, fun _ => rfl⟩

/-! ## ARP -/

/-- Settles O22: the message is decoded where the link layer has left off (`decodeArp_ok`), and each row
of `ARPOP` finishes the record with its class. -/
theorem arpResult : Obligations.ArpResult := by
  unfold Obligations.ArpResult
  intro s
  exact ⟨fun hdepth hr hhw hproto => decodeArp_ok hdepth hr hhw hproto, rfl, rfl, fun _ => rfl⟩

end Sys2Proof.Machine
end

section
/-! SUPPORT. The extension headers, the No-Next row, ICMP and IGMP under their rows (R237, R238, R243 to
R247, R307, R308). -/

namespace Sys2Proof.Machine

section
variable {s : State} {o : Nat} (hdepth : Config.tooDeep s.cfg (s.ctx.depth + 1) = false)
include hdepth

/-- The two bytes of an extension header say how long it is; it is handed on if the remaining length
contains it, and otherwise its length byte is at fault (R246). -/
theorem decodeExt_read (p : Byte) (hr : s.readable s.work.next 2 = true) :
    decodeExt s p =
      if s.ctx.rem < (extensionLength (s.u8 (s.work.next + 1)) : Int) then
        .next ((s.entered s.work.next).raised .lengthUnderflow (s.work.next + 1))
      else
        .next (((s.entered s.work.next).pushInner (.ext
          { protocol := p, nextHeader := s.u8 s.work.next, lengthField := s.u8 (s.work.next + 1)
            headerLength := extensionLength (s.u8 (s.work.next + 1)) })).dispatchProto
              (s.u8 s.work.next) (s.work.next + extensionLength (s.u8 (s.work.next + 1)))
              (s.ctx.rem - (extensionLength (s.u8 (s.work.next + 1)) : Int))) := by
  have hin : ∀ a, a + 1 ≤ s.work.next + 2 → (s.entered s.work.next).readable a 1 = true :=
    fun a h => readable_sub s hr h
  simp only [decodeExt]
  rw [enter_ok s _ _ hdepth, rd8_ok _ _ _ (hin _ (by omega)), rd8_ok _ _ _ (hin _ (by omega))]
  rfl

/-- The No-Next row reads nothing and asks for the remaining length alone (R247). -/
theorem decodeNoNext_entered :
    decodeNoNext s o =
      if s.ctx.rem ≠ 0 then .next ((s.entered o).raised .noNextTrailing o)
      else .next ((s.entered o).finishProto .noNext) := by
  rw [decodeNoNext, enter_ok s o _ hdepth]
  rfl

/-- A readable ICMP header is a finished payload (R307). -/
theorem decodeIcmp_ok (hr : s.readable o 4 = true) :
    decodeIcmp s o = .next ((s.entered o).finishProto (.icmp
      { icmpType := s.u8 o, icmpCode := s.u8 (o + 1), checksum := s.u16 (o + 2)
        checksumStatus := .unchecked })) := by
  have hin : ∀ a n, a + n ≤ o + 4 → (s.entered o).readable a n = true := fun a n h =>
    readable_sub s hr h
  rw [decodeIcmp, enter_ok s o _ hdepth, rd8_ok _ _ _ (hin _ 1 (by omega)),
    rd8_ok _ _ _ (hin _ 1 (by omega)), rd16_ok _ _ _ (hin _ 2 (by omega))]
  rfl

/-- A readable IGMP message is kept, and its type is looked up (R308). -/
theorem decodeIgmp_ok (hr : s.readable o 8 = true) :
    decodeIgmp s o = .next (((s.entered o).setWork
      { s.work with
        igmp :=
          { igmpType := s.u8 o, maxResponseTime := s.u8 (o + 1), checksum := s.u16 (o + 2)
            checksumStatus := .unchecked, group := s.bytes (o + 4) 4, version := none } }).look
      (.igmptype (s.u8 o))) := by
  have hin : ∀ a n, a + n ≤ o + 8 → (s.entered o).readable a n = true := fun a n h =>
    readable_sub s hr h
  rw [decodeIgmp, enter_ok s o _ hdepth, rd8_ok _ _ _ (hin _ 1 (by omega)),
    rd8_ok _ _ _ (hin _ 1 (by omega)), rd16_ok _ _ _ (hin _ 2 (by omega)),
    rdBytes_ok _ _ _ _ (hin _ 4 (by omega))]
  rfl

end

/-- Settles O20: the seven rows are one decoder under seven protocol numbers, and the header lies within
the remaining length. -/
theorem extensionResult : Obligations.ExtensionResult := by
  unfold Obligations.ExtensionResult
  intro s hdepth o hr hl hfits after
  have hdecode : ∀ p, decodeExt s p = .next (after p) := fun p =>
    (decodeExt_read hdepth p hr).trans <| (if_neg (Int.not_lt.2 hfits)).trans <|
      congrArg _ (dispatchProto_entered s _ _ _ _ _)
  exact ⟨hdecode _, hdecode _, hdecode _, hdecode _, hdecode _, hdecode _, hdecode _⟩

/-- Settles O21: the two branches of the row's one test (`decodeNoNext_entered`). -/
theorem noNextResult : Obligations.NoNextResult := by
  unfold Obligations.NoNextResult
  intro s hdepth
  exact ⟨fun hrem => (decodeNoNext_entered hdepth).trans (if_neg (not_not.2 hrem)),
    fun hrem => (decodeNoNext_entered hdepth).trans (if_pos hrem)⟩

/-- Settles O23: both rows decode their header where the protocol dispatch has left off. -/
theorem icmpAndIgmpResult : Obligations.IcmpAndIgmpResult := by
  unfold Obligations.IcmpAndIgmpResult
  intro s hdepth o
  exact ⟨fun hr => decodeIcmp_ok hdepth hr, fun hr => decodeIgmp_ok hdepth hr⟩

end Sys2Proof.Machine
end

section
/-! SUPPORT. The TCP header under its row, and the end of its option loop (R240, R290 to R293). -/

namespace Sys2Proof.Machine

/-- A readable TCP header with a legal data offset is kept, and its options are decoded from byte 20 up
to the end of the header (R290 to R292). -/
theorem decodeTcp_ok {s : State} {o : Nat}
    (hdepth : Config.tooDeep s.cfg (s.ctx.depth + 1) = false) (hr : s.readable o 20 = true)
    (hoff : 5 ≤ tcpDataOffset (s.u8 (o + 12))) :
    decodeTcp s o = .next ((((s.entered o).setCtx
      { (s.entered o).ctx with optend := o + tcpDataOffset (s.u8 (o + 12)) * 4 }).setWork
      { s.work with
        cur := o + 20
        tcp :=
          { srcPort := s.u16 o, dstPort := s.u16 (o + 2), seqno := s.u32 (o + 4)
            ackno := s.u32 (o + 8), headerLength := tcpDataOffset (s.u8 (o + 12)) * 4
            reserved := tcpReserved (s.u8 (o + 12))
            flags := tcpFlags (s.u8 (o + 12)) (s.u8 (o + 13)), window := s.u16 (o + 14)
            checksum := s.u16 (o + 16), checksumStatus := .unchecked
            urgentPointer := s.u16 (o + 18), options := TcpOptions.empty
            dataLength := 0, data := .absent } }).setMode .options) := by
  have hin : ∀ a n, a + n ≤ o + 20 → (s.entered o).readable a n = true := fun a n h =>
    readable_sub s hr h
  have hoff' : ¬ tcpDataOffset ((s.entered o).u8 (o + 12)) < 5 := Nat.not_lt.2 hoff
  rw [decodeTcp, enter_ok s o _ hdepth, rd16_ok _ _ _ (hin _ 2 (by omega)),
    rd16_ok _ _ _ (hin _ 2 (by omega)), rd32_ok _ _ _ (hin _ 4 (by omega)),
    rd32_ok _ _ _ (hin _ 4 (by omega)), rd8_ok _ _ _ (hin _ 1 (by omega)),
    rd8_ok _ _ _ (hin _ 1 (by omega)), if_neg hoff', rd16_ok _ _ _ (hin _ 2 (by omega)),
    rd16_ok _ _ _ (hin _ 2 (by omega)), rd16_ok _ _ _ (hin _ 2 (by omega))]
  rfl

/-- At the end of its area the option loop finishes the record (R290, R294). -/
theorem step_options_end {s : State} (hm : s.mode = .options) (hend : s.ctx.optend ≤ s.work.cur) :
    step s = tcpFinish s := by
  rw [step_eq, fetch, hm]
  simp only [fetchOption, if_neg (Nat.not_lt.2 hend), Fetched.outcome]

/-! ## The data of a segment -/

section
variable {s : State}

/-- The remaining length does not contain the header (R293). -/
theorem tcpFinish_underflow (h : s.ctx.rem < (s.work.tcp.headerLength : Int)) :
    tcpFinish s = .next (s.raised .lengthUnderflow s.ctx.off) := if_pos h

/-- The remaining length is the header's and `dl` bytes more: these are the data, which without bytes has
the explicit absent value (R293). -/
theorem tcpFinish_data {dl : Nat} (h : s.ctx.rem = (s.work.tcp.headerLength : Int) + (dl : Int)) :
    tcpFinish s = .next (s.finishProto (.tcp
      { s.work.tcp with
        dataLength := dl
        data := if dl = 0 then .absent else s.ref (s.ctx.off + s.work.tcp.headerLength) dl })) := by
  have hcontains : ¬ s.ctx.rem < (s.work.tcp.headerLength : Int) := by omega
  have hdl : (s.ctx.rem - (s.work.tcp.headerLength : Int)).toNat = dl := by omega
  simp only [tcpFinish, if_neg hcontains, hdl]
  split
  · next hnone => rw [hnone]
  · rfl

end

/-- Settles O25: the header is read up to the loop (`decodeTcp_ok`), and the end of the loop is the data
length (`tcpFinish_underflow`, `tcpFinish_data`). -/
theorem tcpResult : Obligations.TcpResult := by
  unfold Obligations.TcpResult
  intro s
  refine ⟨fun hdepth hr hlen => ?_, fun hm hend => ?_⟩
  · have hoff : 5 ≤ tcpDataOffset (s.u8 (s.work.next + 12)) :=
      Nat.le_of_mul_le_mul_right (show 5 * 4 ≤ _ from hlen) (by omega)
    exact decodeTcp_ok hdepth hr hoff
  · rw [step_options_end hm hend]
    refine ⟨tcpFinish_underflow, fun hrem => ?_, fun dl hpos hrem => ?_⟩
    · exact tcpFinish_data (dl := 0) (hrem.trans (Int.add_zero _).symm)
    · rw [tcpFinish_data hrem, if_neg (Nat.ne_of_gt hpos)]
      rfl

end Sys2Proof.Machine
end

section
/-! SUPPORT. Where a header decoder raises on what its header says (R230, R246, R248, R290, R305): each
check, after exactly the fields that are read before it. -/

namespace Sys2Proof.Machine

section
variable {s : State} {o : Nat} (hdepth : Config.tooDeep s.cfg (s.ctx.depth + 1) = false)
include hdepth

/-- An IHL below 5 is found in the first byte (R230). -/
theorem decodeIpv4_badIhl (push : State → Ipv4Hdr → State) (hr : s.readable o 1 = true)
    (hihl : ipv4Ihl (s.u8 o) < 5) :
    decodeIpv4 s o push = .next ((s.entered o).raised .headerLengthInvalid o) := by
  have hin : (s.entered o).readable o 1 = true := hr
  rw [decodeIpv4, enter_ok s o _ hdepth, rd8_ok _ _ _ hin]
  exact if_pos hihl

/-- A total length below the header's is found once the fixed header is read (R230). -/
theorem decodeIpv4_underflow (push : State → Ipv4Hdr → State) (hr : s.readable o 20 = true)
    (hihl : 5 ≤ ipv4Ihl (s.u8 o)) (hlen : (s.u16 (o + 2)).toNat < ipv4Ihl (s.u8 o) * 4) :
    decodeIpv4 s o push = .next ((s.entered o).raised .lengthUnderflow (o + 2)) := by
  have hin : ∀ a n, a + n ≤ o + 20 → (s.entered o).readable a n = true := fun a n h =>
    readable_sub s hr h
  have hihl' : ¬ ipv4Ihl ((s.entered o).u8 o) < 5 := Nat.not_lt.2 hihl
  simp only [decodeIpv4]
  rw [enter_ok s o _ hdepth, rd8_ok _ _ _ (hin _ 1 (by omega)), if_neg hihl',
    rd8_ok _ _ _ (hin _ 1 (by omega)), rd16_ok _ _ _ (hin _ 2 (by omega)),
    rd16_ok _ _ _ (hin _ 2 (by omega)), rd16_ok _ _ _ (hin _ 2 (by omega)),
    rd8_ok _ _ _ (hin _ 1 (by omega)), rd8_ok _ _ _ (hin _ 1 (by omega)),
    rd16_ok _ _ _ (hin _ 2 (by omega)), rdBytes_ok _ _ _ _ (hin _ 4 (by omega)),
    rdBytes_ok _ _ _ _ (hin _ 4 (by omega))]
  exact if_pos hlen

/-- Address lengths other than 6 and 4 are found after the operation (R248). -/
theorem decodeArp_unsupported (hr : s.readable o 8 = true)
    (hlens : ¬(s.u8 (o + 4) = 6#8 ∧ s.u8 (o + 5) = 4#8)) :
    decodeArp s o = .next ((s.entered o).raised .arpUnsupported (o + 4)) := by
  have hin : ∀ a n, a + n ≤ o + 8 → (s.entered o).readable a n = true := fun a n h =>
    readable_sub s hr h
  rw [decodeArp, enter_ok s o _ hdepth, rd16_ok _ _ _ (hin _ 2 (by omega)),
    rd16_ok _ _ _ (hin _ 2 (by omega)), rd8_ok _ _ _ (hin _ 1 (by omega)),
    rd8_ok _ _ _ (hin _ 1 (by omega)), rd16_ok _ _ _ (hin _ 2 (by omega))]
  exact if_pos hlens

/-- A data offset below 5 is found after the flags (R290, R292). -/
theorem decodeTcp_badOffset (hr : s.readable o 14 = true)
    (hoff : tcpDataOffset (s.u8 (o + 12)) < 5) :
    decodeTcp s o = .next ((s.entered o).raised .headerLengthInvalid (o + 12)) := by
  have hin : ∀ a n, a + n ≤ o + 14 → (s.entered o).readable a n = true := fun a n h =>
    readable_sub s hr h
  rw [decodeTcp, enter_ok s o _ hdepth, rd16_ok _ _ _ (hin _ 2 (by omega)),
    rd16_ok _ _ _ (hin _ 2 (by omega)), rd32_ok _ _ _ (hin _ 4 (by omega)),
    rd32_ok _ _ _ (hin _ 4 (by omega)), rd8_ok _ _ _ (hin _ 1 (by omega)),
    rd8_ok _ _ _ (hin _ 1 (by omega))]
  exact if_pos hoff

/-- A length below 8 is found once the header is read (R305). -/
theorem decodeUdp_underflow (hr : s.readable o 8 = true) (hlen : (s.u16 (o + 4)).toNat < 8) :
    decodeUdp s o = .next ((s.entered o).raised .lengthUnderflow (o + 4)) := by
  have hin : ∀ a, a + 2 ≤ o + 8 → (s.entered o).readable a 2 = true := fun a h =>
    readable_sub s hr h
  rw [decodeUdp, enter_ok s o _ hdepth, rd16_ok _ _ _ (hin _ (by omega)),
    rd16_ok _ _ _ (hin _ (by omega)), rd16_ok _ _ _ (hin _ (by omega)),
    rd16_ok _ _ _ (hin _ (by omega))]
  exact if_pos hlen

end

/-- Settles O37: each check of a decoder fails; the raw row has recorded its link layer before, which the
raise discards. -/
theorem headerTraps : Obligations.HeaderTraps := by
  unfold Obligations.HeaderTraps
  intro s hdepth at4 o ext
  have hext : ∀ p, s.readable o 2 = true →
      s.ctx.rem < (((s.u8 (o + 1)).toNat + 1) * 8 : Nat) →
      decodeExt s p = .next ((s.entered o).raised .lengthUnderflow (o + 1)) := fun p hr hrem =>
    (decodeExt_read hdepth p hr).trans (if_pos hrem)
  have hraw : at4 .ltRawIpv4 :=
    ⟨decodeIpv4_badIhl (s := s.setLink .raw) hdepth _,
      decodeIpv4_underflow (s := s.setLink .raw) hdepth _⟩
  exact ⟨hraw, ⟨decodeIpv4_badIhl hdepth _, decodeIpv4_underflow hdepth _⟩,
    ⟨decodeIpv4_badIhl hdepth _, decodeIpv4_underflow hdepth _⟩,
    ⟨decodeIpv4_badIhl hdepth _, decodeIpv4_underflow hdepth _⟩,
    hext _, hext _, hext _, hext _, hext _, hext _, hext _,
    decodeArp_unsupported hdepth, decodeTcp_badOffset hdepth, decodeUdp_underflow hdepth⟩

end Sys2Proof.Machine
end

section
/-! SUPPORT. The two rows of `UDPPORT` that open a DNS message, and the row that does not (R305, R306):
the window, and the six words of the message header, read in order inside it (R350, R367). -/

namespace Sys2Proof.Machine

/-! ## The DNS window -/

/-- The state in which the message of `n` bytes at `p` is read: its window ends at `B_len` at the latest
(R350). -/
def State.openDns (s : State) (p n : Nat) : State :=
  s.setCtx { s.ctx with dnsbase := p, dnsend := min (p + n) s.req.blen }

/-- In the opened window a DNS read needs the window alone: it ends at `B_len` at the latest. -/
theorem State.dnsReadable_openDns_iff {s : State} {p n a m : Nat} :
    (s.openDns p n).dnsReadable a m = true ↔ p ≤ a ∧ a + m ≤ min (p + n) s.req.blen := by
  simp only [State.dnsReadable, State.readable, Bool.and_eq_true, decide_eq_true_eq]
  simp only [State.openDns, State.setCtx]
  omega

/-! ## Words in order -/

/-- The outcome reads `n` words from `a` on, in order, and raises `TRUNCATED` at the first one that is not
readable in the window. -/
def CutAtWord (s : State) (a n : Nat) (x : Out) : Prop :=
  ∀ j < n, (∀ m < j, s.dnsReadable (a + 2 * m) 2 = true) → s.dnsReadable (a + 2 * j) 2 = false →
    x = .next (s.raised .truncated (a + 2 * j))

/-- Nothing to read: what follows is not looked at. -/
theorem cutAtWord_zero (s : State) (a : Nat) (x : Out) : CutAtWord s a 0 x :=
  fun j hj => absurd hj (Nat.not_lt_zero j)

/-- A DNS read of a word, and the words after it (R367). -/
theorem cutAtWord_succ {s : State} {a n : Nat} {k : U16 → Out}
    (hk : ∀ v, CutAtWord s (a + 2) n (k v)) : CutAtWord s a (n + 1) (drd16 s a k) := by
  intro j hj hbefore hcut
  cases j with
  | zero => exact drd16_truncated s a k hcut
  | succ j =>
    have hoff : ∀ m, a + 2 * (m + 1) = a + 2 + 2 * m := fun m => by omega
    rw [drd16_ok s a k (hbefore 0 (Nat.succ_pos j)), hoff]
    exact hk _ j (Nat.lt_of_succ_lt_succ hj)
      (fun m hm => hoff m ▸ hbefore (m + 1) (Nat.succ_lt_succ hm)) (hoff j ▸ hcut)

/-! ## The message header -/

/-- The message header is six words from the start of the window (R350). -/
theorem decodeDns_cutAtWord (s : State) (p n : Nat) :
    CutAtWord (s.openDns p n) p 6 (decodeDns s p n) := by
  unfold decodeDns
  exact cutAtWord_succ fun _ => cutAtWord_succ fun _ => cutAtWord_succ fun _ =>
    cutAtWord_succ fun _ => cutAtWord_succ fun _ => cutAtWord_succ fun _ => cutAtWord_zero _ _ _

/-- A header that the window cuts off at word `j` raises there (R350, R367). -/
theorem decodeDns_truncated {s : State} {p n j : Nat} (hj : j < 6)
    (hbefore : j = 0 ∨ p + 2 * j ≤ min (p + n) s.req.blen)
    (hcut : min (p + n) s.req.blen < p + 2 * j + 2) :
    decodeDns s p n = .next ((s.openDns p n).raised .truncated (p + 2 * j)) := by
  refine decodeDns_cutAtWord s p n j hj (fun m hm => ?_) ?_
  · exact State.dnsReadable_openDns_iff.2 (by omega)
  · exact Bool.eq_false_iff.2 (mt State.dnsReadable_openDns_iff.1 (by omega))

/-- A header inside the window is kept, and the sections follow from the byte after it (R350). -/
theorem decodeDns_ok {s : State} {p n : Nat} (hin : p + 12 ≤ min (p + n) s.req.blen) :
    decodeDns s p n = .next (((s.openDns p n).setDns
      { DnsWork.empty with
        msg := { DnsMsg.blank with
          id := s.u16 p, flags := dnsFlags (s.u16 (p + 2)), qdcount := s.u16 (p + 4)
          ancount := s.u16 (p + 6), nscount := s.u16 (p + 8), arcount := s.u16 (p + 10) }
        pending := [.question, .answer, .authority, .additional]
        cursor := p + 12 }).setMode .sections) := by
  have hread : ∀ e k, e + 2 ≤ 12 → drd16 (s.openDns p n) (p + e) k = k (s.u16 (p + e)) :=
    fun e k he => drd16_ok _ _ k (State.dnsReadable_openDns_iff.2 (by omega))
  unfold decodeDns
  exact (hread 0 _ (by omega)).trans <| (hread 2 _ (by omega)).trans <|
    (hread 4 _ (by omega)).trans <| (hread 6 _ (by omega)).trans <|
    (hread 8 _ (by omega)).trans <| hread 10 _ (by omega)

/-- Settles O30: both rows with port 53 decode the DNS message after the UDP header, whose header is
inside the window (`decodeDns_ok`) or cut off at one of its words (`decodeDns_truncated`). -/
theorem udpPortRows : Obligations.UdpPortRows := by
  unfold Obligations.UdpPortRows
  intro s a b
  refine ⟨rfl, fun hin => ?_, fun j hj hbefore hcut => ?_⟩
  · have hok := decodeDns_ok hin
    exact ⟨hok, hok⟩
  · have hraised := decodeDns_truncated hj hbefore hcut
    exact ⟨hraised, hraised⟩

end Sys2Proof.Machine
end

section
/-! SUPPORT. The TCP flags and their nine-bit word (R121, R291), and the rows of `TCPOPT` that complete an
option (R295 to R302). -/

namespace Sys2Proof.Machine

/-! ## The flag word -/

/-- The flags of a TCP header are those of the word of NS and byte 13 (R121, R291). -/
theorem tcpFlags_eq_ofWord (b12 b13 : Byte) :
    tcpFlags b12 b13 = TcpFlags.ofWord (b12.extractLsb' 0 1 ++ b13) := by
  simp only [tcpFlags, TcpFlags.ofWord, BitVec.getLsbD_append, BitVec.getLsbD_extractLsb']
  simp

/-- A word is read back from its flags: bit by bit. -/
theorem TcpFlags.word_ofWord (w : BitVec 9) : (TcpFlags.ofWord w).word = w := by
  apply BitVec.eq_of_getLsbD_eq
  intro i hi
  interval_cases i <;> simp only [TcpFlags.word, TcpFlags.ofWord, BitVec.getLsbD_append] <;> simp

/-- Settles O13: the flags of a TCP header are those of its flag word (`tcpFlags_eq_ofWord`), which is read
back from them (`TcpFlags.word_ofWord`). -/
theorem flagFields : Obligations.FlagFields := by
  unfold Obligations.FlagFields
  refine ⟨fun b12 b13 => ?_, by decide, by decide,
    fun f => ⟨rfl, rfl, rfl, rfl, rfl, rfl, rfl, rfl⟩, by decide, by decide, by decide⟩
  have hword : (tcpFlags b12 b13).word = b12.extractLsb' 0 1 ++ b13 := by
    rw [tcpFlags_eq_ofWord, TcpFlags.word_ofWord]
  exact ⟨rfl, hword, by rw [hword, tcpFlags_eq_ofWord]⟩

/-! ## The options -/

/-- An experimental option inside the area is skipped (R302). -/
theorem optExp_ok {s : State} (hr : s.readable (s.work.cur + 1) 1 = true)
    (hlen : 2 ≤ (s.u8 (s.work.cur + 1)).toNat)
    (hfits : s.work.cur + (s.u8 (s.work.cur + 1)).toNat ≤ s.ctx.optend) :
    optExp s = .next (s.optionDone s.work.tcp.options
      (s.work.cur + (s.u8 (s.work.cur + 1)).toNat)) :=
  (optLen_ok (by omega) hr _).trans ((if_neg (Nat.not_lt.2 hlen)).trans (fits_ok hfits _))

/-- Settles O26: with its length byte right and its bytes in the area an option of fixed size goes on to
its value bytes (`optFixed_value`), which are readable. -/
theorem optionResult : Obligations.OptionResult := by
  unfold Obligations.OptionResult
  intro s i opts after
  refine ⟨rfl, rfl, fun hfits hr hl => ?_, fun hfits hr hl => ?_, fun hfits hr hl => ?_,
    fun hfits hr hl => ?_, fun hfits hr => ?_, fun hr hlen hfits => ?_⟩
  all_goals have hread : s.readable (i + 1) 1 = true := readable_sub s hr (by omega)
  · exact (optFixed_value hread hl hfits (by decide) _).trans
      (rd16_ok s _ _ (readable_sub s hr (by omega)))
  · exact (optFixed_value hread hl hfits (by decide) _).trans
      (rd8_ok s _ _ (readable_sub s hr (by omega)))
  · exact optFixed_ok hfits hread hl _
  · exact (optFixed_value hread hl hfits (by decide) _).trans
      ((rd32_ok s _ _ (readable_sub s hr (by omega))).trans
        (rd32_ok s _ _ (readable_sub s hr (by omega))))
  · exact optLen_ok hfits hread _
  · have skipped := optExp_ok hread hlen hfits
    exact ⟨skipped, skipped⟩

end Sys2Proof.Machine
end

section
/-! SUPPORT. The rows of `DNSLABEL` and `DNSRR` (R355 to R366): each one reads its bytes inside the window,
or raises `TRUNCATED` at the first of them (R367). -/

namespace Sys2Proof.Machine

section
variable {s : State}

/-! ## Names -/

/-- A name step whose first byte is outside the window or past `B_len` (R355, R367). -/
theorem step_name_truncated (hm : s.mode = .name) (hcut : s.dnsReadable s.work.dns.cur 1 = false) :
    step s = .next (s.raised .truncated s.work.dns.cur) := by
  rw [step_eq, fetch, hm, fetchLabel, if_neg (Bool.eq_false_iff.1 hcut)]
  rfl

/-- A pointer within the hop limit is followed, and the first one of a name fixes where the record goes on
(R358, R360, R361). -/
theorem execDnsPtr_followed (n : BitVec 6) (hr : s.dnsReadable (s.work.dns.cur + 1) 1 = true)
    (hhops : s.ctx.hops + 1 ≤ s.cfg.dnsMaxPtrHops) :
    execDnsPtr n s = .next (((s.setCtx { s.ctx with hops := s.ctx.hops + 1 }).setDns
      { s.work.dns with
        resume := some (s.work.dns.resume.getD (s.work.dns.cur + 2))
        cur := s.ctx.dnsbase + pointerOffset n (s.u8 (s.work.dns.cur + 1)) }).setMode .name) :=
  (drd8_ok s _ _ hr).trans (if_neg (Nat.not_lt.2 hhops))

/-- A pointer past the hop limit raises where its first byte stands; the hop counts (R360). -/
theorem execDnsPtr_limit (n : BitVec 6) (hr : s.dnsReadable (s.work.dns.cur + 1) 1 = true)
    (hhops : s.cfg.dnsMaxPtrHops < s.ctx.hops + 1) :
    execDnsPtr n s = .next
      ((s.setCtx { s.ctx with hops := s.ctx.hops + 1 }).raised .dnsPointerLimit s.work.dns.cur) :=
  (drd8_ok s _ _ hr).trans (if_pos hhops)

/-- Settles O31: a label is one read of bytes, a pointer one read of its second byte and the test of the
hop limit. -/
theorem nameRows : Obligations.NameRows := by
  unfold Obligations.NameRows
  intro s n d withDns
  refine ⟨rfl, fun hwin hr => ?_, fun hcut => ?_, step_name_truncated, fun hcut => ?_,
    execDnsPtr_followed n, execDnsPtr_limit n⟩
  · exact dbytes_ok s _ _ _ hwin hr
  · exact dbytes_truncated s _ _ _ hcut
  · show execDnsPtr n s = _
    exact drd8_truncated s _ _ hcut

/-! ## Records -/

/-- The state after a record that is complete with `data`, with the diagnostics of its row (R354). -/
def State.recorded (s : State) (data : RData) (diag : List Diag) : State :=
  (s.setCtx { s.ctx with diag := s.ctx.diag ++ diag }).recordDone data

/-- A record without a diagnostic leaves the list as it is. -/
theorem State.recorded_nil (s : State) (data : RData) : s.recorded data [] = s.recordDone data := by
  rw [State.recorded, List.append_nil]
  rfl

/-- Settles O32: an address row compares the length first (R366), and reads its address if it fits. -/
theorem recordRows : Obligations.RecordRows := by
  unfold Obligations.RecordRows
  intro s d done
  have recorded (data : RData) : .next (s.recordDone data) = done data [] :=
    congrArg _ (s.recorded_nil data).symm
  refine ⟨fun hlen hwin hr => ?_, fun hlen hcut => ?_, fun hlen hcut => ?_, fun hlen => ?_,
    fun hlen hwin hr => ?_, fun hlen => ?_, rfl, fun _ => recorded _⟩
  · exact (if_pos hlen).trans ((dbytes_ok s _ _ _ hwin hr).trans (recorded _))
  · exact (if_pos hlen).trans (dbytes_truncated s _ _ _ hcut)
  · exact (if_pos hlen).trans (dbytes_truncated s _ _ _ hcut)
  · exact if_neg hlen
  · exact (if_pos hlen).trans ((dbytes_ok s _ _ _ hwin hr).trans (recorded _))
  · exact if_neg hlen

end

end Sys2Proof.Machine
end

section
/-! SUPPORT. The work between two DNS rows: the fields after a name (R353, R354, R363), read in order
inside the window, and the head of the section loops (R350, R352). -/

namespace Sys2Proof.Machine

/-! ## Fields in order -/

/-- The outcome reads the fields at `c`, given as offset and size, and raises `TRUNCATED` at the first one
that is not readable in the window. -/
def CutAtDnsField (s : State) (c : Nat) (fields : List (Nat × Nat)) (x : Out) : Prop :=
  ∀ f ∈ fields, (∀ g ∈ fields, g.1 < f.1 → s.dnsReadable (c + g.1) g.2 = true) →
    s.dnsReadable (c + f.1) f.2 = false → x = .next (s.raised .truncated (c + f.1))

section
variable {s : State}

/-- Nothing to read: what follows is not looked at. -/
theorem cutAtDnsField_nil {c : Nat} {x : Out} : CutAtDnsField s c [] x :=
  fun _ hf => absurd hf List.not_mem_nil

/-- A DNS read, and the fields after it (R367). -/
theorem cutAtDnsField_cons {c e n : Nat} {fields : List (Nat × Nat)} {x : Out}
    (hrise : ∀ g ∈ fields, e < g.1) (hx : CutAtDnsField s c fields x) :
    CutAtDnsField s c ((e, n) :: fields)
      (if s.dnsReadable (c + e) n then x else s.raise .truncated (c + e)) := by
  intro f hf hbefore hcut
  rcases List.mem_cons.1 hf with rfl | hmem
  · exact if_neg (Bool.eq_false_iff.1 hcut)
  · rw [if_pos (hbefore (e, n) List.mem_cons_self (hrise f hmem))]
    exact hx f hmem (fun g hg => hbefore g (List.mem_cons_of_mem _ hg)) hcut

/-- A part of a range that is readable in the window is readable in the window (R367). -/
theorem State.dnsReadable_part {a n : Nat} (hbase : s.ctx.dnsbase ≤ a)
    (hwin : a + n ≤ s.ctx.dnsend) (hr : s.readable a n = true) (e m : Nat) (hpart : e + m ≤ n) :
    s.dnsReadable (a + e) m = true :=
  (State.dnsReadable_of_inside (by omega)).trans (readable_sub s hr (by omega))

/-! ## The fields after a name -/

theorem step_afterName (hm : s.mode = .afterName) : step s = afterName s := by
  rw [step_eq, fetch, hm]
  rfl

/-- A question whose type and class are in the window is complete (R353). -/
theorem afterName_question (huse : s.work.dns.nameUse = .question)
    (hbase : s.ctx.dnsbase ≤ s.work.dns.cursor) (hwin : s.work.dns.cursor + 4 ≤ s.ctx.dnsend)
    (hr : s.readable s.work.dns.cursor 4 = true) :
    afterName s = .next (s.questionDone
      { name := s.work.dns.labels, qtype := s.u16 s.work.dns.cursor
        qclass := s.u16 (s.work.dns.cursor + 2) } (s.work.dns.cursor + 4)) := by
  have hin := State.dnsReadable_part hbase hwin hr
  simp only [afterName, huse]
  exact (drd16_ok s _ _ (hin 0 2 (by decide))).trans (drd16_ok s _ _ (hin 2 2 (by decide)))

/-- A record whose ten fixed bytes are in the window: what remains is whether its data is (R354). -/
theorem afterName_owner (huse : s.work.dns.nameUse = .owner)
    (hbase : s.ctx.dnsbase ≤ s.work.dns.cursor) (hwin : s.work.dns.cursor + 10 ≤ s.ctx.dnsend)
    (hr : s.readable s.work.dns.cursor 10 = true) :
    afterName s =
      if s.ctx.dnsend < s.work.dns.cursor + 10 + (s.u16 (s.work.dns.cursor + 8)).toNat then
        s.raise .truncated (s.work.dns.cursor + 10)
      else .next ((s.setDns
        { s.work.dns with
          rr := { name := s.work.dns.labels, rtype := s.u16 s.work.dns.cursor
                  rclass := s.u16 (s.work.dns.cursor + 2), ttl := s.u32 (s.work.dns.cursor + 4)
                  rdlength := s.u16 (s.work.dns.cursor + 8), rdata := .unresolved }
          rdStart := s.work.dns.cursor + 10 }).look
        (.dnsrr (recordCode (s.u16 s.work.dns.cursor) (s.u16 (s.work.dns.cursor + 2))))) := by
  have hin := State.dnsReadable_part hbase hwin hr
  simp only [afterName, huse]
  exact (drd16_ok s _ _ (hin 0 2 (by decide))).trans <|
    (drd16_ok s _ _ (hin 2 2 (by decide))).trans <|
    (drd32_ok s _ _ (hin 4 4 (by decide))).trans <| drd16_ok s _ _ (hin 8 2 (by decide))

/-- NS data that ends completes its record (R363). -/
theorem afterName_nsData (huse : s.work.dns.nameUse = .nsData) :
    afterName s = .next (s.recordDone (.ns s.work.dns.labels)) := by
  simp only [afterName, huse]

/-- A question reads its type, then its class (R353). -/
theorem afterName_question_cutAt (huse : s.work.dns.nameUse = .question) :
    CutAtDnsField s s.work.dns.cursor [(0, 2), (2, 2)] (afterName s) := by
  simp only [afterName, huse]
  exact cutAtDnsField_cons (by simp) <| cutAtDnsField_cons (by simp) cutAtDnsField_nil

/-- A record reads its type, class, TTL and data length (R354). -/
theorem afterName_owner_cutAt (huse : s.work.dns.nameUse = .owner) :
    CutAtDnsField s s.work.dns.cursor [(0, 2), (2, 2), (4, 4), (8, 2)] (afterName s) := by
  simp only [afterName, huse]
  exact cutAtDnsField_cons (by simp) <| cutAtDnsField_cons (by simp) <|
    cutAtDnsField_cons (by simp) <| cutAtDnsField_cons (by simp) cutAtDnsField_nil

/-- Settles O33: one case for each use of the name; the fields in the window are read
(`afterName_question`, `afterName_owner`), and the first one that is not raises. -/
theorem afterName_holds : Obligations.AfterName := by
  unfold Obligations.AfterName
  intro s hm d c
  rw [step_afterName hm]
  refine ⟨afterName_question, fun huse hbase hwin hr => ?_, afterName_question_cutAt,
    afterName_owner_cutAt, afterName_nsData⟩
  have hfields := afterName_owner huse hbase hwin hr
  exact ⟨fun hin => hfields.trans (if_neg (Nat.not_lt.2 hin)),
    fun hpast => hfields.trans (if_pos hpast)⟩

/-! ## The sections -/

/-- Marking one section, each section of the message by itself (R352). -/
theorem DnsMsg.malform_eq (m : DnsMsg) (reason : MalformedReason) (k : SectionKind) :
    m.malform reason k =
      { m with
        questions := if k = .question then .malformed m.qdcount reason else m.questions
        answers := if k = .answer then .malformed m.ancount reason else m.answers
        authorities := if k = .authority then .malformed m.nscount reason else m.authorities
        additionals := if k = .additional then .malformed m.arcount reason else m.additionals } := by
  cases k <;> rfl

/-- Skipping sections marks those of the list, whatever its order, and no others (R352). -/
theorem DnsMsg.skip_eq (m : DnsMsg) (ks : List SectionKind) :
    m.skip ks =
      { m with
        questions := if .question ∈ ks then .malformed m.qdcount .skipped else m.questions
        answers := if .answer ∈ ks then .malformed m.ancount .skipped else m.answers
        authorities := if .authority ∈ ks then .malformed m.nscount .skipped else m.authorities
        additionals :=
          if .additional ∈ ks then .malformed m.arcount .skipped else m.additionals } := by
  induction ks generalizing m with
  | nil => simp [DnsMsg.skip]
  | cons k ks ih =>
    have hfirst : m.skip (k :: ks) = (m.malform .skipped k).skip ks := rfl
    rw [hfirst, ih]
    cases k <;> simp [DnsMsg.malform]

/-- Marking sections keeps every declared count (R350, R352). -/
theorem DnsMsg.skip_malform_count (m : DnsMsg) (reason : MalformedReason) (k : SectionKind)
    (ks : List SectionKind) (k' : SectionKind) :
    ((m.malform reason k).skip ks).count k' = m.count k' := by
  rw [DnsMsg.skip_eq, DnsMsg.malform_eq]
  cases k' <;> rfl

theorem step_sections (hm : s.mode = .sections) : step s = sectionsHead s := by
  rw [step_eq, fetch, hm]
  rfl

/-- The next section is opened when none is under way (R350). -/
theorem sectionsHead_open {k : SectionKind} {later : List SectionKind}
    (hcur : s.work.dns.current = none) (hlater : s.work.dns.pending = k :: later) :
    sectionsHead s = .next (openSection s k later) := by
  simp only [sectionsHead, hcur, hlater]

/-- A section under way reads its next record, or is stored (R352). -/
theorem sectionsHead_current {k : SectionKind} (hcur : s.work.dns.current = some k) :
    sectionsHead s =
      if s.work.dns.left = 0 then
        .next (s.setDns
          { s.work.dns with
            msg := s.work.dns.msg.store s.work.dns.questions s.work.dns.records k
            current := none, questions := [], records := [] })
      else .next (s.startName s.work.dns.cursor (if k = .question then .question else .owner)) := by
  simp only [sectionsHead, hcur]

/-- Settles O34: a section under way (`sectionsHead_current`), the next one with its ceiling, which marks
the sections of the message (`DnsMsg.skip_eq`, `DnsMsg.malform_eq`), or the end of the message. -/
theorem sectionSteps : Obligations.SectionSteps := by
  unfold Obligations.SectionSteps
  intro s hm d withDns
  rw [step_sections hm]
  refine ⟨fun hcur hdone => ?_, fun k later hcur hlater => ⟨fun hover => ?_, fun hunder => ?_⟩,
    fun k hcur hleft => ?_, fun k hcur hleft => ?_⟩
  · simp only [sectionsHead, d, hcur, hdone]
    rfl
  · refine ⟨(d.msg.malform .ceiling k).skip later,
      (sectionsHead_open hcur hlater).trans (congrArg _ (if_pos hover)), ?_⟩
    refine ⟨?_, ?_, d.msg.skip_malform_count .ceiling k later, ?_⟩
    all_goals rw [DnsMsg.skip_eq, DnsMsg.malform_eq]
    exact ⟨rfl, rfl, rfl, rfl⟩
  · exact (sectionsHead_open hcur hlater).trans (congrArg _ (if_neg (Nat.not_lt.2 hunder)))
  · exact (sectionsHead_current hcur).trans (if_neg (Nat.ne_of_gt hleft))
  · rw [sectionsHead_current hcur, if_pos hleft]
    cases k <;> rfl

end

end Sys2Proof.Machine
end

section
/-! SUPPORT. The rules of a flow (R405 to R425): what each state's rule answers, the data and
acknowledgement rules of `ESTAB`, and the rows of `TCPCLASS` that run them. -/

namespace Sys2Proof.Machine

/-! ## Data and acknowledgements -/

section
variable {width : Nat} {k : FlowKey} {d : Direction} {c other : DirectionalCounters} {s : Segment}

/-- A segment without data counts nothing (R415). -/
theorem dataStep_noPayload (h : s.payloadBytes = 0) : dataStep width k d c s = (c, []) := if_pos h

/-- A later copy of a boundary is counted (R415). -/
theorem dataStep_repeat {t : Time} (h : 0 < s.payloadBytes)
    (hfind : mapFind c.packets (boundary width s) = some t) :
    dataStep width k d c s =
      ({ c with
         retrans := mapInsert Nat.blt c.retrans (boundary width s)
           ((mapFind c.retrans (boundary width s)).getD 0 + 1) },
       [{ code := .retransmit, key := k, arg := .boundary d (boundary width s) }]) := by
  simp only [dataStep, if_neg (Nat.ne_of_gt h), hfind]

/-- The first copy of a boundary is timed, with a count of 0 (R415). -/
theorem dataStep_first (h : 0 < s.payloadBytes)
    (hfind : mapFind c.packets (boundary width s) = none) :
    dataStep width k d c s =
      ({ c with
         packets := mapInsert Nat.blt c.packets (boundary width s) s.time
         retrans := mapInsert Nat.blt c.retrans (boundary width s) 0 },
       [{ code := if d = .send then .dataSend else .dataRecv, key := k,
          arg := .data s.tcp.data }]) := by
  simp only [dataStep, if_neg (Nat.ne_of_gt h), hfind]
  cases d <;> rfl

/-- What a segment's data can do: nothing, a repeat, or a first copy (R415). -/
theorem dataStep_cases {P : DirectionalCounters × List Signal → Prop} (nothing : P (c, []))
    (again : ∀ retrans arg, P ({ c with retrans := retrans },
      [{ code := .retransmit, key := k, arg := arg }]))
    (first : ∀ packets retrans arg, P ({ c with packets := packets, retrans := retrans },
      [{ code := if d = .send then .dataSend else .dataRecv, key := k, arg := arg }])) :
    P (dataStep width k d c s) := by
  rcases Nat.eq_zero_or_pos s.payloadBytes with hzero | hpos
  · rw [dataStep_noPayload hzero]; exact nothing
  cases hfind : mapFind c.packets (boundary width s) with
  | some t => rw [dataStep_repeat hpos hfind]; exact again _ _
  | none => rw [dataStep_first hpos hfind]; exact first _ _ _

/-- The data rule leaves the first sequence number, the window scale and the byte counters alone. -/
theorem dataStep_record :
    let r := dataStep width k d c s
    r.1.isn = c.isn ∧ r.1.windowScale = c.windowScale ∧ r.1.ipBytes = c.ipBytes ∧
      r.1.tcpBytes = c.tcpBytes ∧ r.1.payloadBytes = c.payloadBytes :=
  dataStep_cases
    (P := fun r => r.1.isn = c.isn ∧ r.1.windowScale = c.windowScale ∧ r.1.ipBytes = c.ipBytes ∧
      r.1.tcpBytes = c.tcpBytes ∧ r.1.payloadBytes = c.payloadBytes)
    ⟨rfl, rfl, rfl, rfl, rfl⟩ (fun _ _ => ⟨rfl, rfl, rfl, rfl, rfl⟩)
    fun _ _ _ => ⟨rfl, rfl, rfl, rfl, rfl⟩

/-- The first acknowledgement of a boundary of the other direction is timed (R416). -/
theorem mapFind_ackStep_same :
    mapFind (ackStep other c s).acks s.tcp.ackno.toNat =
      if (mapFind other.packets s.tcp.ackno.toNat).isSome ∧ mapFind c.acks s.tcp.ackno.toNat = none
      then some s.time else mapFind c.acks s.tcp.ackno.toNat := by
  simp only [ackStep, Option.isNone_iff_eq_none]
  split
  · exact mapFind_insert_same _ _ _ _
  · rfl

theorem mapFind_ackStep_other {n : Nat} (h : n ≠ s.tcp.ackno.toNat) :
    mapFind (ackStep other c s).acks n = mapFind c.acks n := by
  unfold ackStep
  split
  · exact mapFind_insert_other _ _ _ _ h
  · rfl

/-- An acknowledgement writes its own map alone (R416). -/
theorem ackStep_frame : ackStep other c s = { c with acks := (ackStep other c s).acks } := by
  unfold ackStep
  split
  · rfl
  · rfl

end

/-- Settles O50: the three cases of the data rule, and the one entry that an acknowledgement times. -/
theorem dataAndAcks : Obligations.DataAndAcks := by
  unfold Obligations.DataAndAcks
  intro width k d c other s b r
  refine ⟨dataStep_noPayload, fun t n hpos hpackets hretrans => ?_, fun hpos hpackets => ?_, ?_⟩
  · have hr : r = _ := dataStep_repeat hpos hpackets
    rw [hr]
    have hcount : (mapFind c.retrans b).getD 0 + 1 = n + 1 := by rw [hretrans]; rfl
    exact ⟨rfl, rfl, (mapFind_insert_same _ _ _ _).trans (congrArg some hcount),
      fun _ => mapFind_insert_other _ _ _ _, rfl⟩
  · have hr : r = _ := dataStep_first hpos hpackets
    rw [hr]
    exact ⟨mapFind_insert_same _ _ _ _, mapFind_insert_same _ _ _ _, rfl,
      fun _ hb => ⟨mapFind_insert_other _ _ _ _ hb, mapFind_insert_other _ _ _ _ hb⟩, rfl⟩
  · obtain ⟨hisn, hscale, hip, htcp, hpayload⟩ :=
      dataStep_record (width := width) (k := k) (d := d) (c := c) (s := s)
    exact ⟨hisn, hscale, hip, htcp, hpayload, mapFind_ackStep_same,
      fun _ => mapFind_ackStep_other, ackStep_frame⟩

/-! ## The rule of each state -/

/-- The rule of a state, once syn-retry has been passed by (R405). -/
def FlowState.rule (width : Nat) (c : Classes) (fl : TcpFlow) (s : Segment) : FlowState → FlowStep
  | .closed => closedStep c fl s
  | .synSent => synSentStep c fl s
  | .synRecv => synRecvStep c fl s
  | .estab => estabStep width c fl s
  | .finWait => finWaitStep c fl s
  | .closeWait => closeWaitStep c fl s
  | .lastAck => lastAckStep fl s
  | .closing => closingStep fl s

section
variable {width : Nat} {c : Classes} {fl : TcpFlow} {s : Segment}

/-- Syn-retry comes first (R406). -/
theorem flowStep_synRetry (hsyn : c.synNoAck = true) (hfresh : fl.fresh = false) :
    flowStep width c fl s = synRetry fl :=
  if_pos ⟨hsyn, by simp [hfresh]⟩

/-- Every other segment is the matter of the state's rule (R405). -/
theorem flowStep_rule (h : ¬(c.synNoAck = true ∧ fl.fresh = false)) {st : FlowState}
    (hst : fl.state = st) : flowStep width c fl s = st.rule width c fl s := by
  subst hst
  rw [← Bool.not_eq_true] at h
  rw [flowStep, if_neg h]
  cases fl.state <;> rfl

theorem fromInit_iff : fromInit fl s = true ↔ fl.src = some s.src := beq_iff_eq

theorem fromResp_iff : fromResp fl s = true ↔ fl.dst = some s.src := beq_iff_eq

theorem TcpFlow.with_state {st : FlowState} (h : fl.state = st) : { fl with state := st } = fl := by
  subst h
  rfl

/-- An attributed segment counts in its own direction, and a FIN moves on (R414 to R417). -/
theorem attributedStep_eq (d : Direction) :
    attributedStep width c d fl s =
      { flow :=
          { fl.setCounters d (ackStep (fl.counters d.other)
              (dataStep width fl.key d (record (fl.counters d) s) s).1 s) with
            state := if c.fin = true then finState d else fl.state }
        sigs := (dataStep width fl.key d (record (fl.counters d) s) s).2
        ended := false } := by
  simp only [attributedStep]
  cases d with
  | send => split <;> rfl
  | recv => split <;> rfl

/-- `ESTAB`, a segment of the initiator (R413). -/
theorem estabStep_init (hst : fl.state = .estab) (hinit : fl.src = some s.src) :
    estabStep width c fl s =
      { flow :=
          { fl with
            send := ackStep fl.recv (dataStep width fl.key .send (record fl.send s) s).1 s
            state := if c.fin = true then .finWait else .estab }
        sigs := (dataStep width fl.key .send (record fl.send s) s).2
        ended := false } := by
  rw [estabStep, if_pos (fromInit_iff.2 hinit), attributedStep_eq, hst]
  rfl

/-- `ESTAB`, a segment of the responder (R413). -/
theorem estabStep_resp (hst : fl.state = .estab) (hinit : fl.src ≠ some s.src)
    (hresp : fl.dst = some s.src) :
    estabStep width c fl s =
      { flow :=
          { fl with
            recv := ackStep fl.send (dataStep width fl.key .recv (record fl.recv s) s).1 s
            state := if c.fin = true then .closeWait else .estab }
        sigs := (dataStep width fl.key .recv (record fl.recv s) s).2
        ended := false } := by
  rw [estabStep, if_neg (mt fromInit_iff.1 hinit), if_pos (fromResp_iff.2 hresp), attributedStep_eq,
    hst]
  rfl

/-- `ESTAB`, a segment of neither endpoint (R418). -/
theorem estabStep_neither (hinit : fl.src ≠ some s.src) (hresp : fl.dst ≠ some s.src) :
    estabStep width c fl s = { flow := fl, sigs := [fl.signal .nonMatching], ended := false } := by
  rw [estabStep, if_neg (mt fromInit_iff.1 hinit), if_neg (mt fromResp_iff.1 hresp)]

/-- `FIN_WAIT` moves on with the responder's FIN (R419). -/
theorem finWaitStep_eq (hst : fl.state = .finWait) :
    finWaitStep c fl s =
      silent { fl with
               state := if fl.dst = some s.src ∧ c.fin = true then .closing else .finWait } := by
  simp only [finWaitStep, fromResp_iff]
  split
  · rfl
  · rw [TcpFlow.with_state hst, ignore]

/-- `CLOSE_WAIT` moves on with the initiator's FIN (R420). -/
theorem closeWaitStep_eq (hst : fl.state = .closeWait) :
    closeWaitStep c fl s =
      silent { fl with
               state := if fl.src = some s.src ∧ c.fin = true then .lastAck else .closeWait } := by
  simp only [closeWaitStep, fromInit_iff]
  split
  · rfl
  · rw [TcpFlow.with_state hst, ignore]

end

/-- Settles O51: syn-retry, or the rule of the flow's state (`flowStep_rule`), state by state. -/
theorem transitionTable : Obligations.TransitionTable := by
  unfold Obligations.TransitionTable
  intro width fl s c r init resp sig goes ends counted opened data
  refine ⟨fun ⟨hsyn, hfresh⟩ => flowStep_synRetry hsyn hfresh, fun hnot => ?_⟩
  have rule : ∀ {st}, fl.state = st → r = st.rule width c fl s := flowStep_rule hnot
  refine ⟨fun hst => ?closed, fun hst => ?synSent, fun hst => ?synRecv, fun hst => ?estab,
    fun hst => ?finWait, fun hst => ?closeWait, fun hst => ?lastAck, fun hst => ?closing⟩
  case closed =>
    exact ⟨fun h => (rule hst).trans (if_pos h), fun h => (rule hst).trans (if_neg h)⟩
  case synSent =>
    exact ⟨fun h => (rule hst).trans (if_pos (h.imp_left fromResp_iff.2)),
      fun h => (rule hst).trans (if_neg (mt (And.imp_left fromResp_iff.1) h))⟩
  case synRecv =>
    exact ⟨fun h => (rule hst).trans (if_pos (h.imp_left fromInit_iff.2)),
      fun h => (rule hst).trans (if_neg (mt (And.imp_left fromInit_iff.1) h))⟩
  case estab =>
    exact ⟨fun hinit => (rule hst).trans (estabStep_init hst hinit),
      fun ⟨hinit, hresp⟩ => (rule hst).trans (estabStep_resp hst hinit hresp),
      fun ⟨hinit, hresp⟩ => (rule hst).trans (estabStep_neither hinit hresp)⟩
  case finWait => exact (rule hst).trans (finWaitStep_eq hst)
  case closeWait => exact (rule hst).trans (closeWaitStep_eq hst)
  case lastAck =>
    exact ⟨fun h => (rule hst).trans (if_pos (fromResp_iff.2 h)),
      fun h => (rule hst).trans (if_neg (mt fromResp_iff.1 h))⟩
  case closing =>
    exact ⟨fun h => (rule hst).trans (if_pos (fromInit_iff.2 h)),
      fun h => (rule hst).trans (if_neg (mt fromInit_iff.1 h))⟩

/-! ## The rows of table TCPCLASS -/

/-- A row commits the flow's step with its own predicate true (R146, R405); here the flow goes on. -/
theorem runSegment_goes {c : Classes} {s : State} {o : Observation} (ho : s.obs = some o)
    {fl : TcpFlow} {sigs : List Signal}
    (h : flowStep s.cfg.seqWidth c o.flow o.seg = { flow := fl, sigs := sigs, ended := false }) :
    runSegment c s =
      .next
        { s with
          mode := .idle, obs := none
          registry := mapInsert FlowKey.lt s.registry o.key { fl with fresh := false }
          observed := s.observed ++ [o.out ++ sigs] } := by
  rw [runSegment_some c s o ho, h]
  rfl

/-- A segment with ACK is no SYN-without-ACK (R146). -/
theorem not_synNoAck_of_ack {f : BitVec 9} (h : f &&& 0x010#9 = 0x010#9) :
    f &&& 0x012#9 ≠ 0x002#9 := by
  intro hsyn
  have hack : f &&& 0x012#9 &&& 0x010#9 = f &&& 0x010#9 := BitVec.and_assoc ..
  rw [hsyn, h] at hack
  exact absurd hack (by decide)

/-- Settles O47: the row's predicate is SYN-without-ACK, so a flow that is not fresh answers with
syn-retry, and a fresh one is opened. -/
theorem synRowResult : Obligations.SynRowResult := by
  unfold Obligations.SynRowResult
  intro s o f ho fl done
  refine ⟨fun hfresh => runSegment_goes ho (flowStep_synRetry rfl hfresh), fun hfresh hst => ?_⟩
  exact runSegment_goes ho
    ((flowStep_rule (fun h => nomatch hfresh.symm.trans h.2) hst).trans (if_pos ⟨hfresh, rfl⟩))

/-- Settles O48: a row with ACK is passed by syn-retry, and its segment is from the endpoint that the
state's rule waits for. -/
theorem handshakeRowResult : Obligations.HandshakeRowResult := by
  unfold Obligations.HandshakeRowResult
  intro s o f ho fl counted done
  refine ⟨fun hflags hst hresp => ?_, fun hflags hst hinit => ?_⟩
  · have hsyn : f &&& 0x012#9 ≠ 0x002#9 := by
      rw [hflags]
      decide
    exact runSegment_goes ho
      ((flowStep_rule (fun h => hsyn (eq_of_beq h.1)) hst).trans
        (if_pos ⟨fromResp_iff.2 hresp, rfl⟩))
  · have hsyn := not_synNoAck_of_ack hflags
    exact runSegment_goes ho
      ((flowStep_rule (fun h => hsyn (eq_of_beq h.1)) hst).trans
        (if_pos ⟨fromInit_iff.2 hinit, rfl⟩))

/-- Settles O49: the segment is no SYN-without-ACK, so the rule of the flow's state decides, with FIN. -/
theorem finRowResult : Obligations.FinRowResult := by
  unfold Obligations.FinRowResult
  intro s o f ho _ hsyn fl counted data done
  have rule : ∀ {st}, fl.state = st →
      flowStep s.cfg.seqWidth { classesOf f with fin := true } fl o.seg =
        st.rule s.cfg.seqWidth { classesOf f with fin := true } fl o.seg :=
    flowStep_rule fun h => hsyn (eq_of_beq h.1)
  exact ⟨
    fun hst hinit => runSegment_goes ho ((rule hst).trans (estabStep_init hst hinit)),
    fun hst hinit hresp => runSegment_goes ho ((rule hst).trans (estabStep_resp hst hinit hresp)),
    fun hst hresp => runSegment_goes ho ((rule hst).trans (if_pos ⟨fromResp_iff.2 hresp, rfl⟩)),
    fun hst hinit => runSegment_goes ho ((rule hst).trans (if_pos ⟨fromInit_iff.2 hinit, rfl⟩))⟩

end Sys2Proof.Machine
end

section
/-! SUPPORT. The `observe` call (R400 to R404, R418, R423): which frames have a segment, what the step of
a call in progress commits, and why a good state never meets a foreign segment. -/

namespace Sys2Proof.Machine

/-! ## Segments -/

/-- A frame with a segment carries TCP directly in IPv4, or in IPv6 that is tracked (R401). -/
theorem segmentOf_some {cfg : Config} {f : DecodedFrame} {s : Segment}
    (h : segmentOf cfg f = some s) :
    (∃ hdr, f.payload.payload = .ipv4 hdr (.tcp s.tcp)) ∨
      (cfg.trackIpv6 = true ∧ ∃ hdr, f.payload.payload = .ipv6 hdr (.tcp s.tcp)) := by
  unfold segmentOf at h
  split at h
  · next hdr t hp =>
    cases h
    exact .inl ⟨hdr, hp⟩
  · next hdr t hp =>
    obtain ⟨htrack, h⟩ := Option.ite_none_right_eq_some.1 h
    cases h
    exact .inr ⟨htrack, hdr, hp⟩
  · cases h

/-- Settles O45: the two payloads with a segment, and no other (`segmentOf_some`). -/
theorem segmentFilter : Obligations.SegmentFilter := by
  unfold Obligations.SegmentFilter
  intro cfg f seg
  refine ⟨fun h t hp => ?_, fun h t hp => ?_, fun _ => segmentOf_some⟩
  · simp only [segmentOf, hp]
    rfl
  · simp only [segmentOf, hp]
    rfl

/-! ## The end of a call -/

/-- A row of `TCPCLASS` that holds on the flags steps with the predicates of those flags (R146). -/
theorem exec_classRow {r : ClassRow} {f : BitVec 9} (h : r.holds f = true) (s : State) :
    exec (r.instr f) s = runSegment (classesOf f) s := by
  cases r with
  | synNoAck => simp only [ClassRow.instr, exec, execSegSynNoAck, classesOf, h]
  | synAck => simp only [ClassRow.instr, exec, execSegSynAck, classesOf, h]
  | ack => simp only [ClassRow.instr, exec, execSegAck, classesOf, h]
  | fin => simp only [ClassRow.instr, exec, execSegFin, classesOf, h]

/-- Whether the tested row matches or not, the flow steps with the predicates of its segment (R405). -/
theorem fetchClass_eq {s : State} {o : Observation} (ho : s.obs = some o) :
    (fetchClass s).outcome = runSegment (classesOf o.seg.tcp.flags.word) s := by
  cases hr : o.row with
  | none => simp only [fetchClass, ho, hr, Fetched.outcome, observeOther]
  | some r =>
    simp only [fetchClass, ho, hr, decodeClass_eq]
    by_cases h : r.holds o.seg.tcp.flags.word = true
    · simp only [if_pos h, Fetched.outcome]
      exact exec_classRow h s
    · simp only [if_neg h, Fetched.outcome, observeOther, ho]

/-- The step of a call in progress commits the step of its flow (R400, R405). -/
theorem step_observe_eq {s : State} {o : Observation} (hm : s.mode = .observe)
    (ho : s.obs = some o) :
    step s = .next
      (s.commit o (flowStep s.cfg.seqWidth (classesOf o.seg.tcp.flags.word) o.flow o.seg)) := by
  rw [step_eq, fetch, hm]
  exact (fetchClass_eq ho).trans (runSegment_some _ s o ho)

/-- A key that is removed from a map with rising keys is gone: no other entry has it. -/
theorem mapFind_erase_same {κ ν ι : Type} [DecidableEq κ] [LinearOrder ι] {lt : κ → κ → Bool}
    {rank : κ → ι} (hlt : ∀ a b, lt a b = true ↔ rank a < rank b) {l : List (κ × ν)}
    (h : mapSorted lt l = true) (k : κ) : mapFind (mapErase l k) k = none := by
  rw [mapSorted_iff hlt] at h
  induction l with
  | nil => rfl
  | cons e rest ih =>
    obtain ⟨x, w⟩ := e
    obtain ⟨hx, hrest⟩ := List.pairwise_cons.1 h
    simp only [mapErase]
    split
    · next hxk =>
      subst hxk
      rw [← Option.not_isSome_iff_eq_none, mapFind_isSome_iff]
      exact fun hmem => lt_irrefl _ (hx x hmem)
    · next hxk => simp only [mapFind, if_neg hxk, ih hrest]

/-- Settles O52: the step is a commit (`step_observe_eq`), which removes an ended flow from a registry
with rising keys, and stores any other. -/
theorem observeEnd : Obligations.ObserveEnd := by
  unfold Obligations.ObserveEnd
  intro s o hm hsafe ho r
  obtain ⟨_, _, _, hreg, _⟩ := (State.safe_iff s).1 hsafe
  obtain ⟨hsorted, _, _⟩ := (registryOk_iff s).1 hreg
  refine ⟨s.commit o r, step_observe_eq hm ho, rfl, rfl, rfl, flowStep_sigs_length _ _ _ _,
    rfl, rfl, rfl, rfl, rfl, rfl, fun hended => ?_, fun hgoes => ?_,
    fun _ => mapFind_commit_other s o r⟩
  · rw [State.commit_registry, if_pos hended]
    exact mapFind_erase_same FlowKey.lt_iff hsorted o.key
  · rw [State.commit_registry, if_neg (Bool.eq_false_iff.1 hgoes)]
    exact mapFind_insert_same _ _ _ _

/-! ## No foreign segment -/

/-- No signal of a list reports a foreign segment (R418). -/
def NoForeign (out : List Signal) : Prop := ∀ g ∈ out, g.code ≠ .nonMatching

theorem noForeign_nil : NoForeign [] := fun _ hg => nomatch hg

theorem noForeign_singleton {g : Signal} (h : g.code ≠ .nonMatching) : NoForeign [g] := by
  intro g' hg'
  rw [List.mem_singleton.1 hg']
  exact h

theorem NoForeign.append {out out' : List Signal} (h : NoForeign out) (h' : NoForeign out') :
    NoForeign (out ++ out') := fun g hg => (List.mem_append.1 hg).elim (h g) (h' g)

theorem dataStep_noForeign {width : Nat} {k : FlowKey} {d : Direction} {c : DirectionalCounters}
    {s : Segment} : NoForeign (dataStep width k d c s).2 :=
  dataStep_cases (P := fun r => NoForeign r.2) noForeign_nil
    (fun _ _ => noForeign_singleton nofun)
    fun _ _ _ => noForeign_singleton (by cases d <;> nofun)

/-- The segment comes from an endpoint of the flow, where the flow has its endpoints (R413). -/
def TcpFlow.Knows (fl : TcpFlow) (s : Segment) : Prop :=
  fl.state = .estab → fl.src = some s.src ∨ fl.dst = some s.src

section
variable {width : Nat} {c : Classes} {fl : TcpFlow} {s : Segment}

/-- `ESTAB` calls a segment foreign only if it comes from neither endpoint (R413, R418). -/
theorem estabStep_noForeign (h : fl.src = some s.src ∨ fl.dst = some s.src) :
    NoForeign (estabStep width c fl s).sigs := by
  unfold estabStep
  split
  · exact dataStep_noForeign
  · next hinit =>
    rw [if_pos (fromResp_iff.2 (h.resolve_left (mt fromInit_iff.2 hinit)))]
    exact dataStep_noForeign

/-- No other rule calls a segment foreign (R405). -/
theorem flowStep_noForeign (h : fl.Knows s) : NoForeign (flowStep width c fl s).sigs := by
  unfold flowStep
  split
  · exact noForeign_singleton nofun
  cases hst : fl.state with
  | closed =>
    simp only [closedStep]
    split <;> exact noForeign_nil
  | synSent =>
    simp only [synSentStep]
    split
    · exact noForeign_nil
    · exact noForeign_singleton nofun
  | synRecv =>
    simp only [synRecvStep]
    split
    · exact noForeign_singleton nofun
    · exact noForeign_nil
  | estab => exact estabStep_noForeign (h hst)
  | finWait =>
    simp only [finWaitStep]
    split <;> exact noForeign_nil
  | closeWait =>
    simp only [closeWaitStep]
    split <;> exact noForeign_nil
  | lastAck =>
    simp only [lastAckStep]
    split
    · exact noForeign_singleton nofun
    · exact noForeign_nil
  | closing =>
    simp only [closingStep]
    split
    · exact noForeign_singleton nofun
    · exact noForeign_nil

/-- A flow with good endpoints knows every segment of its key (R403). -/
theorem knows_of_endpointsOk (h : fl.endpointsOk = true) (hkey : flowKey s.src s.dst = fl.key) :
    fl.Knows s := by
  intro _
  unfold TcpFlow.endpointsOk at h
  split at h
  · next a b hsrc hdst =>
    rw [beq_iff_eq, ← hkey] at h
    rw [hsrc, hdst]
    exact (flowKey_inj h).imp (fun ⟨ha, _⟩ => congrArg some ha) fun ⟨_, hb⟩ => congrArg some hb
  · cases h

end

/-- The flow of a call in progress knows the call's segment: it is new, or stored at the segment's key
with good endpoints (R403, R407, R408). -/
theorem knows_of_observationOk {s : State} {o : Observation} (hreg : s.registryOk = true)
    (hobs : s.observationOk = true) (ho : s.obs = some o) : o.flow.Knows o.seg := by
  obtain ⟨hkey, hflow⟩ := observationOk_cases hobs ho
  rcases hflow with hfind | ⟨_, hnew, _⟩
  · obtain ⟨_, hentries, _⟩ := (registryOk_iff s).1 hreg
    obtain ⟨hown, _, hends, _, _⟩ := (entryOk_iff _ _).1 (hentries _ (mem_of_mapFind hfind))
    exact knows_of_endpointsOk hends (hkey.trans hown.symm)
  · rw [hnew]
    exact fun hst => nomatch hst

/-- The signals of a call before its flow's step: none, or `SESSION` (R404). -/
theorem observationOk_noForeign {s : State} {o : Observation} (hobs : s.observationOk = true)
    (ho : s.obs = some o) : NoForeign o.out := by
  simp only [State.observationOk, ho, Bool.and_eq_true] at hobs
  obtain ⟨_, hout⟩ := hobs
  split at hout
  · simp only [Bool.and_eq_true, beq_iff_eq] at hout
    rw [hout.2]
    exact noForeign_nil
  · simp only [Bool.and_eq_true, beq_iff_eq] at hout
    rw [hout.2]
    exact noForeign_singleton nofun

/-- What a step does to the tracker's output: nothing, or it returns one list without a foreign
segment. -/
inductive ReturnsKnown (s t : State) : Prop
  | nothing (h : t.observed = s.observed)
  | returns (out : List Signal) (h : t.observed = s.observed ++ [out]) (hout : NoForeign out)

/-- The start of a call returns an empty list, `REGISTRY_FULL`, or nothing yet (R401, R426). -/
theorem beginObserve_returnsKnown (s : State) (f : DecodedFrame) :
    ReturnsKnown s (beginObserve s f) := by
  cases hseg : segmentOf s.cfg f with
  | none => exact .returns [] (congrArg _ (beginObserve_untracked hseg)) noForeign_nil
  | some seg =>
    cases hfind : mapFind s.registry (flowKey seg.src seg.dst) with
    | some fl => exact .nothing (by rw [beginObserve_known hseg hfind])
    | none =>
      cases hroom : hasRoom s.cfg s.registry with
      | true => exact .nothing (by rw [beginObserve_new hseg hfind hroom])
      | false =>
        exact .returns _ (congrArg State.observed (beginObserve_full hseg hfind hroom))
          (noForeign_singleton nofun)

theorem TakesCall.returnsKnown {s t : State} (h : TakesCall s t) : ReturnsKnown s t := by
  cases h with
  | nothing | decode | short => exact .nothing rfl
  | @observe f rest =>
    cases beginObserve_returnsKnown { s with calls := rest } f with
    | nothing h => exact .nothing h
    | returns out h hout => exact .returns out h hout

/-- The end of a call returns the signals so far and those of the flow's step (R400). -/
theorem Commits.returnsKnown {s t : State} (hsafe : s.safe = true) (h : Commits s t) :
    ReturnsKnown s t := by
  obtain ⟨o, c, ho, rfl⟩ := h
  obtain ⟨_, _, _, hreg, hobs⟩ := (State.safe_iff s).1 hsafe
  exact .returns _ rfl ((observationOk_noForeign hobs ho).append
    (flowStep_noForeign (knows_of_observationOk hreg hobs ho)))

/-- Settles O53: a step takes a call, commits a flow that knows its segment, or goes on with a request,
which leaves the tracker's output alone. -/
theorem nonMatchingNever : Obligations.NonMatchingNever := by
  unfold Obligations.NonMatchingNever
  intro s t out hsafe hstep hout
  have hknown : ReturnsKnown s t := by
    by_cases hidle : s.mode = .idle
    · rw [step_idle hidle] at hstep
      exact (takeCall_leads s t hstep).returnsKnown
    by_cases hobserve : s.mode = .observe
    · exact (step_observe hobserve t hstep).returnsKnown hsafe
    have hsel := State.selOk_of_modeOk (State.safe_modeOk hsafe)
    exact .nothing
      (step_leads s (parsing_of_mode hidle hobserve) hsel t hstep).keepsOutside.observed
  cases hknown with
  | nothing h => exact absurd (h.symm.trans hout) (by simp)
  | returns out' h hfree =>
    obtain rfl : out' = out := by simpa using h.symm.trans hout
    exact hfree

end Sys2Proof.Machine
end
